-- ==== Sys2Proof/Word.lean ====
section
/-! DEFINITION. The words of the CT2410: the bit vectors and byte vectors that the data book counts in (00_scope.md, Table 1). -/

namespace Sys2Proof

/-- One byte. -/
abbrev Byte := BitVec 8

/-- A host or memory byte address (R2). -/
abbrev Addr := BitVec 32

/-- A block index, bits 27 to 12 of a window offset (R3). -/
abbrev Block := BitVec 16

/-- A line index, bits 27 to 6 of a window offset (R3). -/
abbrev LineIndex := BitVec 22

/-- The lane mask of a LINE record: flag k stands for byte k of the line (R28). -/
abbrev LineMask := BitVec 64

/-- A record's sequence number, counted modulo 256 (00_scope.md, Sequence arithmetic). -/
abbrev SeqNo := BitVec 8

/-- A session number, 0 standing for none (R77). -/
abbrev SessionNo := BitVec 16

/-- A 10-bit symbol on the pair link, its bits in the order sent, the first one the most significant (R180). -/
abbrev LineCode := BitVec 10

/-- The tag of a checkpoint marker (R145). -/
abbrev Tag := BitVec 16

/-- The 8 bytes of a beat, byte lane j at index j (R2). -/
abbrev BeatBytes := Vector Byte 8

/-- The 64 bytes of a line, in line order from byte 0 (R28). -/
abbrev LineBytes := Vector Byte 64

end Sys2Proof
end

