-- ==== Sys2Proof/Config.lean ====
section
/-! DEFINITION. What the data book fixes as plain sizes, and the two values it leaves open. -/

namespace Sys2Proof

/-- The journal's slots (R31). -/
abbrev Config.journalSlots : Nat := 256

/-- The apply queue's places (R118). -/
abbrev Config.queueSlots : Nat := 32

/-- The places of the outstanding list and of the results list (R145). -/
abbrev Config.markerSlots : Nat := 8

/-- The consecutive read timeouts that stop the sweep (R65). -/
abbrev Config.sweepFaultCount : Nat := 4

/-- The shortest low level on RESET that certainly resets the part, in nanoseconds (R182: 1 µs). -/
abbrev Config.resetPulseNs : Nat := 1000

/-- FREE VALUE: whether the n-th RESET pulse shorter than 1 µs resets the part.
R182 says only that it may or may not. Log entry 3. -/
opaque Config.shortPulseResets : Nat → Bool

/-- FREE VALUE: how many FILL symbols, beyond one, separate the n-th frame's end from the frame that follows it.
R73 says that line fill separates one frame from the next and gives no number. Log entry 28. -/
opaque Config.moreFill : Nat → Nat

end Sys2Proof
end

