-- ==== Sys2Proof/Syntax.lean ====
section
/-! DEFINITION. The commands of the CT2410: one constructor for each row of spec/opcode_table.json, with its operands. -/

namespace Sys2Proof

/-- What a bus transaction does (R2, Table 1.1): its kind, its size and, for a write, its lanes and data. -/
inductive Access where
  | readBeat
  | readLine
  | writeBeat (lanes : BitVec 8) (data : BeatBytes)
  | writeLine (data : LineBytes)
  deriving DecidableEq, Repr

/-- A transaction of the host bus or of the memory bus (R2, Table 1.1). -/
structure BusTxn where
  addr   : Addr
  access : Access
  deriving DecidableEq, Repr

/-- What applies a power-on reset (R182): power-up, or a low level on RESET that lasts `lowNs` nanoseconds. -/
inductive ResetCause where
  | powerUp
  | resetPin (lowNs : Nat)
  deriving DecidableEq, Repr

/-- What ends a truncated frame before its END-OF-FRAME (R180). -/
inductive TruncatingSymbol where
  | fill
  | startOfFrame
  | invalidSymbol
  deriving DecidableEq, Repr

/-- The commands. Receive commands carry every byte gathered between START-OF-FRAME and END-OF-FRAME:
the type byte, the body and the four CRC bytes (R180). Management commands carry their argument bytes,
multi-byte numbers joined most significant byte first (R179). -/
inductive Instr where
  /-- ARRIVAL (R6): the host bus's transaction is taken. -/
  | arrival (txn : BusTxn)
  /-- INIT (R22). -/
  | init
  /-- HOST_GRANT (R13). -/
  | hostGrant
  /-- SWEEP_GRANT (R62). -/
  | sweepGrant
  /-- APPLY_GRANT (R125). -/
  | applyGrant
  /-- HOST_MEMORY_COMPLETION (R15): `data` is what memory returned; a BEAT read takes its first 8 bytes, a write none. -/
  | hostMemoryCompletion (data : LineBytes)
  /-- HOST_MEMORY_TIMEOUT (R17). -/
  | hostMemoryTimeout
  /-- SWEEP_READ_COMPLETION (R63). -/
  | sweepReadCompletion (data : LineBytes)
  /-- SWEEP_READ_TIMEOUT (R65). -/
  | sweepReadTimeout
  /-- ORPHANED_READ_COMPLETION (R70). -/
  | orphanedReadCompletion (data : LineBytes)
  /-- ORPHANED_READ_TIMEOUT (R70). -/
  | orphanedReadTimeout
  /-- ABANDONED_TRANSACTION_ANSWER (R18). -/
  | abandonedTransactionAnswer (data : LineBytes)
  /-- APPLY_COMPLETION (R126). -/
  | applyCompletion
  /-- APPLY_TIMEOUT (R127). -/
  | applyTimeout
  /-- SPACE_WAIT_EXPIRY (R12). -/
  | spaceWaitExpiry
  /-- SYNC_HOLD_EXPIRY (R16). -/
  | syncHoldExpiry
  /-- SELECTION (R60). -/
  | selection
  /-- REPEAT_TIMER_EXPIRY (R79). -/
  | repeatTimerExpiry
  /-- KEEPALIVE_TIMER_EXPIRY (R79). -/
  | keepaliveTimerExpiry
  /-- SILENCE_TIMER_EXPIRY (R88). -/
  | silenceTimerExpiry
  /-- RETRANSMIT_TIMER_EXPIRY (R109). -/
  | retransmitTimerExpiry
  /-- TRANSMIT_FRAME_END (R78). -/
  | transmitFrameEnd
  /-- RECEIVE_HELLO (R80). -/
  | receiveHello (bytes : List Byte)
  /-- RECEIVE_START (R85). -/
  | receiveStart (bytes : List Byte)
  /-- RECEIVE_READY (R83). -/
  | receiveReady (bytes : List Byte)
  /-- RECEIVE_DATA (R117). -/
  | receiveData (bytes : List Byte)
  /-- RECEIVE_ACK (R104). -/
  | receiveAck (bytes : List Byte)
  /-- RECEIVE_NAK (R106). -/
  | receiveNak (bytes : List Byte)
  /-- RECEIVE_IDLE (R88). -/
  | receiveIdle (bytes : List Byte)
  /-- RECEIVE_HALT (R91). -/
  | receiveHalt (bytes : List Byte)
  /-- TRUNCATED_FRAME (R180): the bytes gathered so far and the symbol that cut the frame short. -/
  | truncatedFrame (bytes : List Byte) (symbol : TruncatingSymbol)
  /-- STATUS (R160). -/
  | status
  /-- READ REGION (R161). -/
  | readRegion (index : Byte)
  /-- WRITE REGION (R162). -/
  | writeRegion (index valid mode policy : Byte) (pattern care : BitVec 16)
  /-- READ PARAM (R163). -/
  | readParam (ident : Byte)
  /-- WRITE PARAM (R164). -/
  | writeParam (ident : Byte) (value : BitVec 32)
  /-- SET ROLE (R137). -/
  | setRole (target : Byte)
  /-- START REPAIR (R66). -/
  | startRepair
  /-- STOP REPAIR (R67). -/
  | stopRepair
  /-- PLACE MARKER (R146). -/
  | placeMarker (tag : Tag)
  /-- READ MARKERS (R150). -/
  | readMarkers
  /-- RELINK (R95). -/
  | relink
  /-- PROMOTE (R132). -/
  | promote
  /-- CLEAR FAULT (R129). -/
  | clearFault
  /-- READ ALERTS (R172). -/
  | readAlerts
  /-- ACK ALERTS (R173). -/
  | ackAlerts (mask : BitVec 16)
  /-- SET ALERT ENABLES (R174). -/
  | setAlertEnables (mask : BitVec 16)
  /-- READ COUNTERS (R166). -/
  | readCounters (first number clear : Byte)
  /-- RESET PART (R168). -/
  | resetPart
  /-- UNKNOWN_COMMAND (R156): a command byte that names no command. -/
  | unknownCommand (code : Byte)
  /-- SHORT_FRAME (R154): the bytes that arrived before MSEL rose. -/
  | shortFrame (bytes : List Byte)
  /-- POWER_ON_RESET (R26, R182). -/
  | powerOnReset (cause : ResetCause)
  /-- FRAME_END (R154). -/
  | frameEnd
  /-- RESET_RELEASE (R182): `mselLow` is the level of MSEL at the end of the reset (R159). -/
  | resetRelease (mselLow : Bool)
  deriving DecidableEq, Repr

end Sys2Proof
end

