-- ==== Sys2Proof/Machine/Types.lean ====
section
/-! DEFINITION. The types of the part's state, block by block, and of the frames of the pair link. -/

namespace Sys2Proof.Machine

open Sys2Proof

/-! Roles, regions and parameters. -/

/-- The part's role (R136). `promoting` is Replica-promoting. -/
inductive Role where
  | standalone
  | primary
  | replica
  | promoting
  deriving DecidableEq, Repr

/-- A region entry's mode (R4). -/
inductive RegionMode where
  | off
  | async
  | sync
  deriving DecidableEq, Repr

/-- A region entry's full policy (R4). -/
inductive FullPolicy where
  | stall
  | mark
  deriving DecidableEq, Repr

/-- One entry of the region table (R4); `pattern` is the match pattern. -/
structure Region where
  valid   : Bool
  mode    : RegionMode
  policy  : FullPolicy
  pattern : BitVec 16
  care    : BitVec 16
  deriving DecidableEq, Repr

/-- The fourteen parameters (R164, Table 8.4), times in the unit of Table 10.5. -/
structure Params where
  windowBase     : Addr
  pairId         : BitVec 16
  windowSize     : Nat
  memLimit       : Nat
  holdLimit      : Nat
  retxInterval   : Nat
  retryLimit     : Nat
  silenceLimit   : Nat
  journalReserve : Nat
  highWater      : Nat
  lowWater       : Nat
  sweepShare     : Nat
  applyBurst     : Nat
  autoRepair     : Bool
  deriving DecidableEq, Repr

/-- The names of the parameters (Table 10.5). -/
inductive Param where
  | windowBase
  | pairId
  | windowSize
  | memLimit
  | holdLimit
  | retxInterval
  | retryLimit
  | silenceLimit
  | journalReserve
  | highWater
  | lowWater
  | sweepShare
  | applyBurst
  | autoRepair
  deriving DecidableEq, Repr

/-! The host port and the memory port. -/

/-- The host port's states (Table 1.4). -/
inductive HostState where
  | idle
  | spaceWait
  | portWait
  | inMemory
  | syncHold
  deriving DecidableEq, Repr

/-- The mirrored block a primary mirrored write touches, with its mode and policy (R10). -/
structure NotedBlock where
  block  : Block
  mode   : RegionMode
  policy : FullPolicy
  deriving DecidableEq, Repr

/-- An answer on the host bus (R1): FAULT, or DONE with the bytes read, if any. -/
inductive HostAnswer where
  | fault
  | doneWrite
  | doneBeat (data : BeatBytes)
  | doneLine (data : LineBytes)
  deriving DecidableEq, Repr

/-- The host port (section 1.4). `timer` is the HOLD_LIMIT timer, present while it runs, with the limit it was
started with; `answer` is the answer given to the last transaction taken, absent until one is given. -/
structure HostPort where
  state  : HostState
  txn    : Option BusTxn
  noted  : Option NotedBlock
  claim  : Bool
  bound  : Bool
  timer  : Option Nat
  answer : Option HostAnswer
  deriving DecidableEq, Repr

/-- Whose transaction is in memory (R18). `abandonedHost` is a host transaction that INIT abandoned (R22). -/
inductive PortOwner where
  | host
  | abandonedHost
  | sweep
  | apply
  deriving DecidableEq, Repr

/-- The transaction in memory, with the MEM_LIMIT its timer was started with (R18). -/
structure PortUse where
  owner : PortOwner
  txn   : BusTxn
  limit : Nat
  deriving DecidableEq, Repr

/-- The memory port and the counts of its two arbiters (R18 to R20). -/
structure MemPort where
  use       : Option PortUse
  sweepWait : Nat
  applyRun  : Nat
  deriving DecidableEq, Repr

/-! The journal, the dirty map and the sweep. -/

/-- A journal record's state (Table 2.2). -/
inductive RecState where
  | filling
  | queued
  | sent
  | resend
  deriving DecidableEq, Repr

/-- A journal record's kind with the fields of that kind (Table 2.1). An IMAGE record has no data until it is filled. -/
inductive RecBody where
  | line (index : LineIndex) (mask : LineMask) (data : LineBytes)
  | image (index : LineIndex) (data : Option LineBytes)
  | marker (tag : Tag)
  deriving DecidableEq, Repr

/-- A journal record (Table 2.1). -/
structure Record where
  body   : RecBody
  state  : RecState
  seq    : Option SeqNo
  waiter : Bool
  deriving DecidableEq, Repr

/-- The journal, head first, with its high-water arm flag (R31, R46). -/
structure Journal where
  records : List Record
  armed   : Bool
  deriving DecidableEq, Repr

/-- The dirty map (R51): the blocks whose flag is set, in rising order without repeats; the count; the cursor. -/
structure DirtyMap where
  flags  : List Block
  count  : Nat
  cursor : Block
  deriving DecidableEq, Repr

/-- The sweep's states (Table 3.2). -/
inductive SweepState where
  | idle
  | scanning
  | copying
  | waiting
  | stopped
  deriving DecidableEq, Repr

/-- The block in copy and the line of it read next or being read (Table 3.3). -/
structure Copy where
  block : Block
  line  : BitVec 6
  deriving DecidableEq, Repr

/-- A sweep read in memory: its line, and whether it belongs to the current copy (Table 3.3). -/
structure SweepRead where
  line    : LineIndex
  current : Bool
  deriving DecidableEq, Repr

/-- The repair sweep (Tables 3.2 and 3.3). -/
structure Sweep where
  state       : SweepState
  copy        : Option Copy
  request     : Bool
  read        : Option SweepRead
  stopPending : Bool
  timeouts    : Nat
  deriving DecidableEq, Repr

/-! The pair link. -/

/-- The link states (Table 4.2). -/
inductive LinkState where
  | off
  | training
  | up
  | halted
  deriving DecidableEq, Repr

/-- The session start modes (R81). -/
inductive SessionMode where
  | full
  | incremental
  deriving DecidableEq, Repr

/-- A primary's training phase (R80, R81); the START phase holds the decided mode. -/
inductive TrainPhase where
  | hello
  | start (mode : SessionMode)
  deriving DecidableEq, Repr

/-- The reasons of a HALT (Table 4.1). -/
inductive HaltReason where
  | retryExhausted
  | applyFault
  | promoted
  | roleChange
  deriving DecidableEq, Repr

/-- The direction of the halt record (R92). -/
inductive HaltDirection where
  | sent
  | received
  deriving DecidableEq, Repr

/-- The halt record, when it holds one (R92). -/
structure HaltRecord where
  reason    : HaltReason
  direction : HaltDirection
  deriving DecidableEq, Repr

/-- The role a HELLO may carry (Table 4.1). -/
inductive HelloRole where
  | primary
  | replica
  deriving DecidableEq, Repr

/-- The fields of a HELLO frame (Table 4.1). -/
structure Hello where
  role       : HelloRole
  pairId     : BitVec 16
  session    : SessionNo
  continuity : Bool
  queueEmpty : Bool
  deriving DecidableEq, Repr

/-- What a DATA frame and an apply queue record carry, by record kind (Table 4.1). -/
inductive Payload where
  | line (index : LineIndex) (mask : LineMask) (data : LineBytes)
  | image (index : LineIndex) (data : LineBytes)
  | marker (tag : Tag)
  deriving DecidableEq, Repr

/-- The eight frames of the pair link (Table 4.1). -/
inductive LinkFrame where
  | hello (h : Hello)
  | start (session : SessionNo) (mode : SessionMode)
  | ready (session : SessionNo)
  | data (seq : SeqNo) (payload : Payload)
  | ack (appliedThrough : SeqNo)
  | nak (expected : SeqNo)
  | idle
  | halt (reason : HaltReason)
  deriving DecidableEq, Repr

/-- The eight frame types (Table 4.1). -/
inductive FrameType where
  | hello
  | start
  | ready
  | data
  | ack
  | nak
  | idle
  | halt
  deriving DecidableEq, Repr

/-- The transmitter's due flags; the HALT flag carries its reason (R78). -/
structure Due where
  hello : Bool
  start : Bool
  ready : Bool
  ack   : Bool
  nak   : Bool
  idle  : Bool
  halt  : Option HaltReason
  deriving DecidableEq, Repr

/-- The link controller (chapter 4). `tx` is the frame in transmission. `repeatRun` and `keepaliveRun` say that the
1 ms and the 250 µs timer run; `silence` holds the limit, in ms, of the running silence timer (R79, R88). -/
structure Link where
  state            : LinkState
  phase            : TrainPhase
  conflictReported : Bool
  lastSession      : SessionNo
  lastServed       : SessionNo
  continuity       : Bool
  haltRecord       : Option HaltRecord
  due              : Due
  tx               : Option LinkFrame
  repeatRun        : Bool
  keepaliveRun     : Bool
  silence          : Option Nat
  deriving DecidableEq, Repr

/-- A running disparity of the line code (R180). -/
inductive Disparity where
  | negative
  | positive
  deriving DecidableEq, Repr

/-- The symbols of the pair link: a data byte, START-OF-FRAME, END-OF-FRAME, FILL (R180). -/
inductive LineSymbol where
  | data (b : Byte)
  | startOfFrame
  | endOfFrame
  | fill
  deriving DecidableEq, Repr

/-- The ends of the pair link's line (R73, R180): the transmitter's running disparity, how many FILL symbols it still sends before the next
START-OF-FRAME, and how many symbols of the frame in transmission it has sent; the receiver's running disparity and the bytes it has
gathered since a START-OF-FRAME, absent outside a frame. -/
structure Wire where
  txDisparity : Disparity
  fillDue     : Nat
  sent        : Nat
  rxDisparity : Disparity
  gathered    : Option (List Byte)
  deriving DecidableEq, Repr

/-- The sender (Table 5.1). `timer` holds the period, in µs, of the running retransmit timer. -/
structure Sender where
  next    : SeqNo
  retries : Nat
  timer   : Option Nat
  deriving DecidableEq, Repr

/-! The replica. -/

/-- A record of the apply queue (R115). -/
structure QueueRecord where
  seq     : SeqNo
  payload : Payload
  deriving DecidableEq, Repr

/-- The replica receiver (Table 6.1). -/
structure Receiver where
  queue          : List QueueRecord
  expected       : SeqNo
  appliedThrough : SeqNo
  nakPending     : Bool
  deriving DecidableEq, Repr

/-- The apply states (Table 6.3). -/
inductive ApplyState where
  | idle
  | applying
  | fault
  deriving DecidableEq, Repr

/-- The apply engine (R123). In APPLYING the record in application is the head of the apply queue, and `todo` is what
is left of its list of transactions: the first is the one requested (`request`) or in memory. -/
structure ApplyEngine where
  state   : ApplyState
  todo    : List BusTxn
  request : Bool
  deriving DecidableEq, Repr

/-! Pair Control. -/

/-- The pair states (Table 7.2). -/
inductive PairState where
  | alone
  | degraded
  | repairing
  | mirrored
  deriving DecidableEq, Repr

/-- A marker's outcome (R145). -/
inductive MarkerOutcome where
  | reached
  | failed
  deriving DecidableEq, Repr

/-- An entry of the results list (R145). -/
structure MarkerResult where
  tag     : Tag
  outcome : MarkerOutcome
  deriving DecidableEq, Repr

/-- The pair state as last derived and the two marker lists (R141, R145). -/
structure PairControl where
  state       : PairState
  outstanding : List Tag
  results     : List MarkerResult
  deriving DecidableEq, Repr

/-! The management port, the Alert Unit and the counters. -/

/-- The frame phases (Table 8.1), and the wait of R159 for MSEL to rise after a reset. -/
inductive MgmtPhase where
  | deselected
  | waitingForRise
  | command
  | arguments
  | turnaround
  | result
  | response
  | fill
  deriving DecidableEq, Repr

/-- The result codes (Table 8.2). -/
inductive ResultCode where
  | ok
  | busy
  | badArg
  | badState
  | unknown
  deriving DecidableEq, Repr

/-- What an output pin does (R152, R182). -/
inductive PinLevel where
  | undriven
  | low
  | high
  deriving DecidableEq, Repr

/-- The management port's frame in progress (chapter 8, opening). `bits` holds the bits of the byte in progress, first one first;
`passed` the bytes that have crossed in the present phase since the command was taken; `mdo` the level of MDO (R152). -/
structure Mgmt where
  phase    : MgmtPhase
  command  : Option Byte
  args     : List Byte
  result   : Option ResultCode
  response : List Byte
  bits     : List Bool
  passed   : Nat
  mdo      : PinLevel
  deriving DecidableEq, Repr

/-- The fifteen alert causes (Table 9.1). -/
inductive AlertCause where
  | linkUp
  | linkLost
  | linkHalted
  | roleConflict
  | pairMirrored
  | pairDegraded
  | syncTimeout
  | journalHigh
  | markerDone
  | markerFailed
  | sweepFault
  | memoryTimeout
  | applyFault
  | fenceRefusal
  | promoted
  deriving DecidableEq, Repr

/-- A cause's state (R170). -/
inductive CauseState where
  | clear
  | raised
  | reported
  deriving DecidableEq, Repr

/-- A cause's state and occurrence count (R170). -/
structure Cause where
  state : CauseState
  count : BitVec 8
  deriving DecidableEq, Repr

/-- The Alert Unit: the causes by number, the enables by number, and the ALERT output, true while asserted (R170 to R175). -/
structure AlertUnit where
  causes  : Vector Cause 15
  enables : BitVec 15
  line    : Bool
  deriving DecidableEq, Repr

/-- The twelve counters (Table 9.2). -/
inductive Counter where
  | recordsSent
  | recordsResent
  | naksReceived
  | framesDiscarded
  | overflowMarks
  | stallTimeouts
  | syncTimeouts
  | memoryTimeouts
  | fenceRefusals
  | alignRefusals
  | sweepBlocksCopied
  | recordsApplied
  deriving DecidableEq, Repr

/-- The counters' values by index (Table 9.2, R177). -/
abbrev Counters := Vector (BitVec 32) 12

/-- What happens on the lines of the management port and of the pair link (R152, R180): MSEL falls or rises; MCLK rises, with the level of
MDI, or falls; a symbol arrives on the link; a symbol time of the link's transmitter ends. -/
inductive LineEvent where
  | mselFall
  | mselRise
  | mclkRise (mdi : Bool)
  | mclkFall
  | symbolIn (code : LineCode)
  | symbolOut
  deriving DecidableEq, Repr

end Sys2Proof.Machine
end

