-- ==== Sys2Proof/Machine/ResetValues.lean ====
section
/-! DEFINITION. Each block's values after a power-on reset, with the rule that gives them. -/

namespace Sys2Proof.Machine

/-- R4: an entry after a power-on reset. -/
def Region.powerOn : Region :=
  { valid := false, mode := .off, policy := .stall, pattern := 0, care := 0 }

/-- Table 8.4: the parameters' defaults. -/
def Params.powerOn : Params :=
  { windowBase := 0, pairId := 0, windowSize := 16, memLimit := 12, holdLimit := 250, retxInterval := 400,
    retryLimit := 5, silenceLimit := 5, journalReserve := 32, highWater := 224, lowWater := 160,
    sweepShare := 4, applyBurst := 4, autoRepair := true }

/-- R9, R26: IDLE with no transaction, claim, binding or timer. No answer has been given. -/
def HostPort.idle : HostPort :=
  { state := .idle, txn := none, noted := none, claim := false, bound := false, timer := none, answer := none }

/-- R21, R26: the port free and both counts 0. -/
def MemPort.powerOn : MemPort := { use := none, sweepWait := 0, applyRun := 0 }

/-- R49: empty, with the arm flag set. -/
def Journal.powerOn : Journal := { records := [], armed := true }

/-- R51: every flag clear, the count and the cursor 0. -/
def DirtyMap.clean : DirtyMap := { flags := [], count := 0, cursor := 0 }

/-- R57: IDLE with an empty context. -/
def Sweep.powerOn : Sweep :=
  { state := .idle, copy := none, request := false, read := none, stopPending := false, timeouts := 0 }

/-- R97: no frame due. -/
def Due.nothing : Due :=
  { hello := false, start := false, ready := false, ack := false, nak := false, idle := false, halt := none }

/-- R97: OFF, nothing due or in transmission, the timers stopped, the session values 0, 0 and clear, no halt record.
The training phase, which means nothing outside TRAINING, is HELLO (log entry 2). -/
def Link.powerOn : Link :=
  { state := .off, phase := .hello, conflictReported := false, lastSession := 0, lastServed := 0,
    continuity := false, haltRecord := none, due := Due.nothing, tx := none, repeatRun := false,
    keepaliveRun := false, silence := none }

/-- No symbol of a frame sent, none gathered and no line fill owed. The data book gives the running disparities no reset value; the family of the line code
starts negative (log entry 26). -/
def Wire.powerOn : Wire := { txDisparity := .negative, fillDue := 0, sent := 0, rxDisparity := .negative, gathered := none }

/-- R98: the next number 0, the retry count 0, the timer stopped. -/
def Sender.powerOn : Sender := { next := 0, retries := 0, timer := none }

/-- R115: the queue empty, expected 0, applied-through 255, NAK-pending clear. -/
def Receiver.powerOn : Receiver := { queue := [], expected := 0, appliedThrough := 255, nakPending := false }

/-- R123: IDLE with no context. -/
def ApplyEngine.idle : ApplyEngine := { state := .idle, todo := [], request := false }

/-- R141, R145: ALONE, both lists empty. -/
def PairControl.powerOn : PairControl := { state := .alone, outstanding := [], results := [] }

/-- R152, R159: DESELECTED, with no frame in progress and MDO not driven. -/
def Mgmt.deselected : Mgmt :=
  { phase := .deselected, command := none, args := [], result := none, response := [], bits := [], passed := 0, mdo := .undriven }

/-- R170, R174, R175: every cause CLEAR with count 0, every enable off, the line deasserted. -/
def AlertUnit.powerOn : AlertUnit :=
  { causes := Vector.replicate 15 { state := .clear, count := 0 }, enables := 0, line := false }

/-- R177: every counter 0. -/
def Counters.powerOn : Counters := Vector.replicate 12 0

end Sys2Proof.Machine
end

