-- ==== Sys2Proof/Machine/State.lean ====
section
/-! DEFINITION. The part's whole state, the reasons a step could stop, and the state after reset. -/

namespace Sys2Proof.Machine

open Sys2Proof

/-- The reasons to stop with a fault. There is none: no rule of the data book stops the part, and every command has a next state
in every state. -/
inductive Fault where
  deriving DecidableEq, Repr

/-- The reasons to refuse a command. -/
inductive Refusal where
  /-- Raised by an arm of exec whose command has no meaning yet; no arm does. Safe. -/
  | notModelled (mnemonic : String)
  deriving DecidableEq, Repr

/-- The state of the part, one field for each block that owns state (00_scope.md, Events and ownership). `pending` is the
model's queue of commands that wait, the first one first; `lines` is the model's queue of what happens next on the lines of the management
port and of the pair link (log entry 21); `freeIndex` is the model's counter of free values drawn (log entries 3 and 28);
`inReset` says that the part is held in power-on reset (R182). -/
structure State where
  pending   : List Instr
  lines     : List LineEvent
  freeIndex : Nat
  inReset   : Bool
  role      : Role
  regions   : Vector Region 16
  params    : Params
  host      : HostPort
  mem       : MemPort
  journal   : Journal
  map       : DirtyMap
  sweep     : Sweep
  link      : Link
  wire      : Wire
  sender    : Sender
  receiver  : Receiver
  apply     : ApplyEngine
  pair      : PairControl
  mgmt      : Mgmt
  alert     : AlertUnit
  counters  : Counters
  deriving DecidableEq, Repr

/-- The part right after a power-on reset has been released with MSEL high (R159, R182; log entry 1). -/
def State.reset : State :=
  { pending := [], lines := [], freeIndex := 0, inReset := false, role := .standalone,
    regions := Vector.replicate 16 Region.powerOn, params := Params.powerOn, host := HostPort.idle,
    mem := MemPort.powerOn, journal := Journal.powerOn, map := DirtyMap.clean, sweep := Sweep.powerOn,
    link := Link.powerOn, wire := Wire.powerOn, sender := Sender.powerOn, receiver := Receiver.powerOn, apply := ApplyEngine.idle,
    pair := PairControl.powerOn, mgmt := Mgmt.deselected, alert := AlertUnit.powerOn, counters := Counters.powerOn }

end Sys2Proof.Machine
end

