-- ==== Sys2Proof/Machine/Operands.lean ====
section
/-! DEFINITION. The operand forms: byte order, the codes of chapter 10, the frames of the pair link with their CRC, and where a bus
transaction falls in the mirror window. -/

namespace Sys2Proof.Machine

open Sys2Proof

/-! ## Byte order (R179, R181: most significant byte first) -/

/-- The two bytes of a 16-bit number. -/
def bytes16 (w : BitVec 16) : List Byte := [w.extractLsb' 8 8, w.extractLsb' 0 8]

/-- The three bytes of a line index, padded with two zero bits above (R181). -/
def bytesLine (l : LineIndex) : List Byte :=
  [(0#2 ++ l.extractLsb' 16 6), l.extractLsb' 8 8, l.extractLsb' 0 8]

/-- The three bytes of a 24-bit number. -/
def bytes24 (w : BitVec 24) : List Byte := [w.extractLsb' 16 8, w.extractLsb' 8 8, w.extractLsb' 0 8]

/-- The four bytes of a 32-bit number. -/
def bytes32 (w : BitVec 32) : List Byte :=
  [w.extractLsb' 24 8, w.extractLsb' 16 8, w.extractLsb' 8 8, w.extractLsb' 0 8]

/-- The eight bytes of a DATA mask: mask byte i holds the flags of line bytes 8 × i to 8 × i + 7 (R181). -/
def bytesMask (m : LineMask) : List Byte := (List.range 8).map fun i => m.extractLsb' (8 * i) 8

/-- The mask of eight mask bytes (R181). -/
def maskOfBytes (bs : List Byte) : LineMask :=
  bs.getD 7 0 ++ bs.getD 6 0 ++ bs.getD 5 0 ++ bs.getD 4 0 ++ bs.getD 3 0 ++ bs.getD 2 0 ++ bs.getD 1 0 ++ bs.getD 0 0

/-- The line of 64 bytes sent in line order from byte 0 (R181). -/
def lineOfBytes (bs : List Byte) : LineBytes := Vector.ofFn fun k => bs.getD k 0

/-! ## Enumeration codes (R179, Tables 10.2 and 10.3) -/

/-- The role codes. -/
def Role.code : Role → Byte
  | .standalone => 0x00
  | .primary => 0x01
  | .replica => 0x02
  | .promoting => 0x03

/-- A SET ROLE target: Standalone, Primary or Replica (R137). -/
def roleTarget (b : Byte) : Option Role :=
  if b = 0x00 then some .standalone else if b = 0x01 then some .primary else if b = 0x02 then some .replica else none

/-- The region mode codes. -/
def RegionMode.code : RegionMode → Byte
  | .off => 0x00
  | .async => 0x01
  | .sync => 0x02

/-- The mode a byte codes, if any. -/
def regionMode (b : Byte) : Option RegionMode :=
  if b = 0x00 then some .off else if b = 0x01 then some .async else if b = 0x02 then some .sync else none

/-- The full policy codes. -/
def FullPolicy.code : FullPolicy → Byte
  | .stall => 0x00
  | .mark => 0x01

/-- The policy a byte codes, if any. -/
def fullPolicy (b : Byte) : Option FullPolicy :=
  if b = 0x00 then some .stall else if b = 0x01 then some .mark else none

/-- A flag argument: 0 for clear and 1 for set. -/
def flagArg (b : Byte) : Option Bool :=
  if b = 0x00 then some false else if b = 0x01 then some true else none

/-- The byte of a flag. -/
def flagCode (f : Bool) : Byte := if f then 0x01 else 0x00

/-- The link state codes. -/
def LinkState.code : LinkState → Byte
  | .off => 0x00
  | .training => 0x01
  | .up => 0x02
  | .halted => 0x03

/-- The sweep state codes. -/
def SweepState.code : SweepState → Byte
  | .idle => 0x00
  | .scanning => 0x01
  | .copying => 0x02
  | .waiting => 0x03
  | .stopped => 0x04

/-- The apply state codes. -/
def ApplyState.code : ApplyState → Byte
  | .idle => 0x00
  | .applying => 0x01
  | .fault => 0x02

/-- The pair state codes of a part that is no replica. -/
def PairState.code : PairState → Byte
  | .alone => 0x00
  | .degraded => 0x01
  | .repairing => 0x02
  | .mirrored => 0x03

/-- The pair state code of a replica (R141). -/
def replicaPairCode : Byte := 0x04

/-- The halt reason codes; none is 0x00. -/
def HaltReason.code : HaltReason → Byte
  | .retryExhausted => 0x01
  | .applyFault => 0x02
  | .promoted => 0x03
  | .roleChange => 0x04

/-- The reason a HALT's byte names: any but none (R181). -/
def haltReason (b : Byte) : Option HaltReason :=
  if b = 0x01 then some .retryExhausted else if b = 0x02 then some .applyFault
  else if b = 0x03 then some .promoted else if b = 0x04 then some .roleChange else none

/-- The halt direction codes; none is 0x00. -/
def HaltDirection.code : HaltDirection → Byte
  | .sent => 0x01
  | .received => 0x02

/-- The marker outcome codes (R179). -/
def MarkerOutcome.code : MarkerOutcome → Byte
  | .reached => 0x01
  | .failed => 0x02

/-- The result codes (Table 10.3). -/
def ResultCode.code : ResultCode → Byte
  | .ok => 0x00
  | .busy => 0x01
  | .badArg => 0x02
  | .badState => 0x03
  | .unknown => 0x04

/-- How many argument bytes follow a command byte; absent for a byte that names no command (Table 10.1). -/
def commandArgs (code : Byte) : Option Nat :=
  match code.toNat with
  | 0x01 => some 0
  | 0x10 => some 1
  | 0x11 => some 8
  | 0x18 => some 1
  | 0x19 => some 5
  | 0x20 => some 1
  | 0x21 => some 0
  | 0x22 => some 0
  | 0x23 => some 2
  | 0x24 => some 0
  | 0x28 => some 0
  | 0x29 => some 0
  | 0x2A => some 0
  | 0x30 => some 0
  | 0x31 => some 2
  | 0x32 => some 2
  | 0x38 => some 3
  | 0x3F => some 0
  | _ => none

/-- The bytes of a frame that has not got as far as the taking of its command (R153, R154): none, or a known command
byte with fewer argument bytes than it calls for. -/
def framesShort (bytes : List Byte) : Bool :=
  match bytes with
  | [] => true
  | code :: args => match commandArgs code with
    | some n => decide (args.length < n)
    | none => false

/-! ## Parameters (Tables 8.4 and 10.5) -/

/-- The parameter an identifier names (Table 10.5). -/
def Param.ofId (ident : Byte) : Option Param :=
  match ident.toNat with
  | 0x00 => some .windowBase
  | 0x01 => some .pairId
  | 0x02 => some .windowSize
  | 0x03 => some .memLimit
  | 0x04 => some .holdLimit
  | 0x05 => some .retxInterval
  | 0x06 => some .retryLimit
  | 0x07 => some .silenceLimit
  | 0x08 => some .journalReserve
  | 0x09 => some .highWater
  | 0x0A => some .lowWater
  | 0x0B => some .sweepShare
  | 0x0C => some .applyBurst
  | 0x0D => some .autoRepair
  | _ => none

/-- The ranges of Table 8.4 (R164, condition 2). -/
def Param.inRange (p : Param) (v : BitVec 32) : Bool :=
  match p with
  | .windowBase => v.extractLsb' 0 28 == 0
  | .pairId => decide (v.toNat ≤ 65535)
  | .windowSize => decide (1 ≤ v.toNat ∧ v.toNat ≤ 32)
  | .memLimit => decide (1 ≤ v.toNat ∧ v.toNat ≤ 255)
  | .holdLimit => decide (10 ≤ v.toNat ∧ v.toNat ≤ 10000)
  | .retxInterval => decide (50 ≤ v.toNat ∧ v.toNat ≤ 20000)
  | .retryLimit => decide (1 ≤ v.toNat ∧ v.toNat ≤ 15)
  | .silenceLimit => decide (1 ≤ v.toNat ∧ v.toNat ≤ 100)
  | .journalReserve => decide (8 ≤ v.toNat ∧ v.toNat ≤ 128)
  | .highWater => decide (64 ≤ v.toNat ∧ v.toNat ≤ 255)
  | .lowWater => decide (v.toNat ≤ 254)
  | .sweepShare => decide (1 ≤ v.toNat ∧ v.toNat ≤ 16)
  | .applyBurst => decide (1 ≤ v.toNat ∧ v.toNat ≤ 8)
  | .autoRepair => decide (v.toNat ≤ 1)

/-- R164, condition 3: each water mark against the other as it stands. -/
def Param.related (p : Param) (ps : Params) (v : BitVec 32) : Bool :=
  match p with
  | .highWater => decide (ps.lowWater < v.toNat)
  | .lowWater => decide (v.toNat < ps.highWater)
  | _ => true

/-- The value held (R163). -/
def Params.get (ps : Params) : Param → BitVec 32
  | .windowBase => ps.windowBase
  | .pairId => ps.pairId.setWidth 32
  | .windowSize => BitVec.ofNat 32 ps.windowSize
  | .memLimit => BitVec.ofNat 32 ps.memLimit
  | .holdLimit => BitVec.ofNat 32 ps.holdLimit
  | .retxInterval => BitVec.ofNat 32 ps.retxInterval
  | .retryLimit => BitVec.ofNat 32 ps.retryLimit
  | .silenceLimit => BitVec.ofNat 32 ps.silenceLimit
  | .journalReserve => BitVec.ofNat 32 ps.journalReserve
  | .highWater => BitVec.ofNat 32 ps.highWater
  | .lowWater => BitVec.ofNat 32 ps.lowWater
  | .sweepShare => BitVec.ofNat 32 ps.sweepShare
  | .applyBurst => BitVec.ofNat 32 ps.applyBurst
  | .autoRepair => if ps.autoRepair then 1 else 0

/-- The parameters with one value stored (R164). -/
def Params.put (ps : Params) (p : Param) (v : BitVec 32) : Params :=
  match p with
  | .windowBase => { ps with windowBase := v }
  | .pairId => { ps with pairId := v.setWidth 16 }
  | .windowSize => { ps with windowSize := v.toNat }
  | .memLimit => { ps with memLimit := v.toNat }
  | .holdLimit => { ps with holdLimit := v.toNat }
  | .retxInterval => { ps with retxInterval := v.toNat }
  | .retryLimit => { ps with retryLimit := v.toNat }
  | .silenceLimit => { ps with silenceLimit := v.toNat }
  | .journalReserve => { ps with journalReserve := v.toNat }
  | .highWater => { ps with highWater := v.toNat }
  | .lowWater => { ps with lowWater := v.toNat }
  | .sweepShare => { ps with sweepShare := v.toNat }
  | .applyBurst => { ps with applyBurst := v.toNat }
  | .autoRepair => { ps with autoRepair := v == 1 }

/-! ## The CRC of the pair link (R75) -/

/-- One bit of the CRC register: shift left, and subtract the generator 0x04C1_1DB7 when a one leaves. -/
def crcBit (r : BitVec 32) : BitVec 32 :=
  if r.msb then (r <<< 1) ^^^ 0x04C11DB7#32 else r <<< 1

/-- One byte, most significant bit first. -/
def crcByte (r : BitVec 32) (b : Byte) : BitVec 32 :=
  crcBit (crcBit (crcBit (crcBit (crcBit (crcBit (crcBit (crcBit (r ^^^ (b.setWidth 32 <<< 24)))))))))

/-- The CRC over the type byte and the body: the register starts at all ones and is inverted at the end. -/
def crc32 (content : List Byte) : BitVec 32 := ~~~ (content.foldl crcByte 0xFFFFFFFF#32)

/-! ## Frames (R74, R75, R181) -/

/-- A frame's type. -/
def LinkFrame.type : LinkFrame → FrameType
  | .hello _ => .hello
  | .start _ _ => .start
  | .ready _ => .ready
  | .data _ _ => .data
  | .ack _ => .ack
  | .nak _ => .nak
  | .idle => .idle
  | .halt _ => .halt

/-- The type bytes (Table 10.6). -/
def FrameType.code : FrameType → Byte
  | .hello => 0x01
  | .start => 0x02
  | .ready => 0x03
  | .data => 0x10
  | .ack => 0x20
  | .nak => 0x21
  | .idle => 0x30
  | .halt => 0x3F

/-- The type a byte names, if any (Table 10.6). -/
def FrameType.ofCode (b : Byte) : Option FrameType :=
  if b = 0x01 then some .hello else if b = 0x02 then some .start else if b = 0x03 then some .ready
  else if b = 0x10 then some .data else if b = 0x20 then some .ack else if b = 0x21 then some .nak
  else if b = 0x30 then some .idle else if b = 0x3F then some .halt else none

/-- A HELLO's role byte (Table 10.2). -/
def HelloRole.code : HelloRole → Byte
  | .primary => 0x01
  | .replica => 0x02

/-- The role a HELLO's byte names: Primary or Replica, any other value failing the range check (R181). -/
def helloRole (b : Byte) : Option HelloRole :=
  if b = 0x01 then some .primary else if b = 0x02 then some .replica else none

/-- START mode codes (R181). -/
def SessionMode.code : SessionMode → Byte
  | .full => 0x01
  | .incremental => 0x02

/-- The mode a START's byte names. -/
def sessionMode (b : Byte) : Option SessionMode :=
  if b = 0x01 then some .full else if b = 0x02 then some .incremental else none

/-- HELLO flags: continuity in bit 0, queue-empty in bit 1 (R181). -/
def helloFlags (continuity queueEmpty : Bool) : Byte :=
  0#6 ++ BitVec.ofBool queueEmpty ++ BitVec.ofBool continuity

/-- The body of a frame (Table 10.6). -/
def LinkFrame.body : LinkFrame → List Byte
  | .hello h => h.role.code :: (bytes16 h.pairId ++ (bytes16 h.session ++ [helloFlags h.continuity h.queueEmpty]))
  | .start session mode => bytes16 session ++ [mode.code]
  | .ready session => bytes16 session
  | .data seq (.line l m d) => seq :: 0x01 :: (bytesLine l ++ (bytesMask m ++ d.toList))
  | .data seq (.image l d) => seq :: 0x02 :: (bytesLine l ++ d.toList)
  | .data seq (.marker t) => seq :: 0x03 :: bytes16 t
  | .ack n => [n]
  | .nak n => [n]
  | .idle => []
  | .halt r => [r.code]

/-- The bytes of a frame between START-OF-FRAME and END-OF-FRAME: type, body and CRC (R180, R181). -/
def LinkFrame.encode (f : LinkFrame) : List Byte :=
  let content := f.type.code :: f.body
  content ++ bytes32 (crc32 content)

/-- A DATA line index: three bytes, a value above 4,194,303 failing the range check (R181). -/
def lineField (b2 b1 b0 : Byte) : Option LineIndex :=
  if b2.extractLsb' 6 2 = 0 then some (b2.extractLsb' 0 6 ++ b1 ++ b0) else none

/-- The body of a HELLO: length 6, and every field in range (R181). -/
def parseHello : List Byte → Option LinkFrame
  | [role, p1, p0, s1, s0, flags] =>
    if flags.extractLsb' 2 6 = 0 then
      (helloRole role).map fun r =>
        .hello { role := r, pairId := p1 ++ p0, session := s1 ++ s0,
                 continuity := flags.getLsbD 0, queueEmpty := flags.getLsbD 1 }
    else none
  | _ => none

/-- The body of a START: length 3, a session that is not 0, a known mode (R181). -/
def parseStart : List Byte → Option LinkFrame
  | [s1, s0, mode] => if s1 ++ s0 = 0#16 then none else (sessionMode mode).map (.start (s1 ++ s0))
  | _ => none

/-- The body of a READY: length 2, a session that is not 0 (R181). -/
def parseReady : List Byte → Option LinkFrame
  | [s1, s0] => if s1 ++ s0 = 0#16 then none else some (.ready (s1 ++ s0))
  | _ => none

/-- The body of a DATA frame, by the record kind its kind byte names; a LINE mask of zero fails (R181). -/
def parseData : List Byte → Option LinkFrame
  | seq :: kind :: rest =>
    if kind = 0x01 then
      match rest with
      | b2 :: b1 :: b0 :: tail =>
        if tail.length = 72 then
          if maskOfBytes (tail.take 8) = 0 then none
          else (lineField b2 b1 b0).map fun l =>
            .data seq (.line l (maskOfBytes (tail.take 8)) (lineOfBytes (tail.drop 8)))
        else none
      | _ => none
    else if kind = 0x02 then
      match rest with
      | b2 :: b1 :: b0 :: tail =>
        if tail.length = 64 then (lineField b2 b1 b0).map fun l => .data seq (.image l (lineOfBytes tail)) else none
      | _ => none
    else if kind = 0x03 then
      match rest with
      | [t1, t0] => some (.data seq (.marker (t1 ++ t0)))
      | _ => none
    else none
  | _ => none

/-- The type, length and range checks over the type byte and the body (R75). -/
def parseContent : List Byte → Option LinkFrame
  | [] => none
  | code :: body =>
    match FrameType.ofCode code with
    | none => none
    | some .hello => parseHello body
    | some .start => parseStart body
    | some .ready => parseReady body
    | some .data => parseData body
    | some .ack => match body with | [n] => some (.ack n) | _ => none
    | some .nak => match body with | [n] => some (.nak n) | _ => none
    | some .idle => match body with | [] => some .idle | _ => none
    | some .halt => match body with | [r] => (haltReason r).map .halt | _ => none

/-- The four checks of R75 on the bytes gathered, the last four taken as the CRC (R180): the frame, when it is valid. -/
def checkFrame (bytes : List Byte) : Option LinkFrame :=
  if bytes.length < 5 then none
  else
    let content := bytes.take (bytes.length - 4)
    if bytes.drop (bytes.length - 4) = bytes32 (crc32 content) then parseContent content else none

/-- The frames whose fields hold the values Table 4.1 lists: no session 0 in START or READY, no empty LINE mask. -/
def LinkFrame.wf : LinkFrame → Bool
  | .start session _ => session != 0
  | .ready session => session != 0
  | .data _ (.line _ mask _) => mask != 0
  | _ => true

/-! ## Bus transactions and the mirror window (R2, R3, R5, R14) -/

/-- The byte addresses a transaction writes (R2): the set lanes of a beat, or all 64 bytes from the address upward modulo 2^32. -/
def written (t : BusTxn) : List Addr :=
  match t.access with
  | .readBeat => []
  | .readLine => []
  | .writeBeat lanes _ =>
    ((List.range 8).filter fun j => lanes.getLsbD j).map fun j => (t.addr &&& ~~~7#32) + BitVec.ofNat 32 j
  | .writeLine _ => (List.range 64).map fun j => t.addr + BitVec.ofNat 32 j

/-- Whether the transaction is a write. -/
def isWriteTxn (t : BusTxn) : Bool :=
  match t.access with
  | .readBeat => false
  | .readLine => false
  | .writeBeat _ _ => true
  | .writeLine _ => true

/-- A LINE write whose address has a low six bit set (R2). -/
def misalignedLineWrite (t : BusTxn) : Bool :=
  match t.access with
  | .writeLine _ => t.addr.extractLsb' 0 6 != 0
  | _ => false

/-- The block of an address inside the window; none outside it (R3). -/
def blockOf (base a : Addr) : Option Block :=
  if a.extractLsb' 28 4 = base.extractLsb' 28 4 then some ((a - base).extractLsb' 12 16) else none

/-- The line index of an address inside the window (R3). -/
def lineOf (base a : Addr) : LineIndex := (a - base).extractLsb' 6 22

/-- A list without the later repeats of its elements. -/
def distinct : List Block → List Block
  | [] => []
  | b :: bs => b :: (distinct bs).filter fun c => c != b

/-- The blocks a transaction touches: those with at least one byte it writes (R2). -/
def touched (base : Addr) (t : BusTxn) : List Block := distinct ((written t).filterMap (blockOf base))

/-- Whether a block belongs to an entry (R5). -/
def Region.holds (r : Region) (b : Block) : Bool := r.valid && (b ^^^ r.pattern) &&& r.care == 0

/-- The deciding entry of a block: the valid entry of lowest index to which it belongs (R5). -/
def deciding (rs : Vector Region 16) (b : Block) : Option Region := rs.toList.find? fun r => r.holds b

/-- The mode of a block, OFF where no entry decides (R5). -/
def blockMode (rs : Vector Region 16) (b : Block) : RegionMode :=
  match deciding rs b with
  | some r => r.mode
  | none => .off

/-- The full policy of a block's deciding entry (R5). -/
def blockPolicy (rs : Vector Region 16) (b : Block) : FullPolicy :=
  match deciding rs b with
  | some r => r.policy
  | none => .stall

/-- Whether a block is mirrored: its mode is ASYNC or SYNC (R5). -/
def isMirrored (rs : Vector Region 16) (b : Block) : Bool := blockMode rs b != .off

/-- Whether a mirroring entry takes in some block whose bits k and above are `high` (R5). -/
def Region.meets (r : Region) (k high : Nat) : Bool :=
  r.valid && r.mode != .off && ((BitVec.ofNat 16 (high <<< k) ^^^ r.pattern) &&& r.care) >>> k == 0

/-- The mirrored blocks whose bits k and above are `high`, in rising order: the halves by bit k - 1, where some entry reaches them. -/
def mirroredFrom (rs : Vector Region 16) : Nat → Nat → List Block
  | 0, high => if isMirrored rs (BitVec.ofNat 16 high) then [BitVec.ofNat 16 high] else []
  | k + 1, high =>
    if rs.toList.any fun r => r.meets (k + 1) high then mirroredFrom rs k (2 * high) ++ mirroredFrom rs k (2 * high + 1)
    else []

/-- Every mirrored block, in rising order (R54): the blocks 0 to 65,535 of which `isMirrored` holds. -/
def mirroredBlocks (rs : Vector Region 16) : List Block := mirroredFrom rs 16 0

/-- The block of a line (R28). -/
def lineBlock (l : LineIndex) : Block := l.extractLsb' 6 16

/-- Line k of block b has line index b × 64 + k (R57). -/
def Copy.lineIndex (c : Copy) : LineIndex := c.block ++ c.line

/-- The memory address of a line: the window base plus 64 times its index (R57, R124). -/
def lineAddr (base : Addr) (l : LineIndex) : Addr := base + (l.setWidth 32 <<< 6)

/-- The 64-flag mask of the bytes a write puts in its line (R14). -/
def writeMask (t : BusTxn) : LineMask :=
  match t.access with
  | .writeLine _ => BitVec.allOnes 64
  | .writeBeat lanes _ => lanes.setWidth 64 <<< (8 * (t.addr.extractLsb' 3 3).toNat)
  | _ => 0

/-- The bytes a write puts in its line, zero where its mask is clear (R14, R34). -/
def writeData (t : BusTxn) : LineBytes :=
  match t.access with
  | .writeLine d => d
  | .writeBeat _ d => Vector.ofFn fun k => if (writeMask t).getLsbD k then d[k.val % 8] else 0
  | _ => Vector.replicate 64 0

/-- A line's bytes with those a mask names replaced (R35). -/
def overlay (mask : LineMask) (new old : LineBytes) : LineBytes :=
  Vector.ofFn fun k => if mask.getLsbD k then new[k] else old[k]

/-- The answer DONE to a transaction, with the bytes memory returned for a read (R1). -/
def doneAnswer (t : BusTxn) (data : LineBytes) : HostAnswer :=
  match t.access with
  | .readBeat => .doneBeat (Vector.ofFn fun k : Fin 8 => data[k.val])
  | .readLine => .doneLine data
  | _ => .doneWrite

/-- The memory transactions a record needs, in order (R123, R124). -/
def recordTxns (base : Addr) : Payload → List BusTxn
  | .marker _ => []
  | .image l d => [{ addr := lineAddr base l, access := .writeLine d }]
  | .line l m d =>
    if m = BitVec.allOnes 64 then [{ addr := lineAddr base l, access := .writeLine d }]
    else ((List.range 8).filter fun i => m.extractLsb' (8 * i) 8 != 0).map fun i =>
      { addr := lineAddr base l + BitVec.ofNat 32 (8 * i),
        access := .writeBeat (m.extractLsb' (8 * i) 8) (Vector.ofFn fun j : Fin 8 => d.toList.getD (8 * i + j.val) 0) }

end Sys2Proof.Machine
end

