-- ==== Sys2Proof/Decode.lean ====
section
/-! DEFINITION. The commands spelt by bytes. No row of spec/opcode_table.json gives bits, so no table word spells a command; a management
command is spelt by the bytes of its frame (R153, R179, Table 10.1). The other byte layouts of chapter 10 are in Machine/Operands.lean. -/

namespace Sys2Proof

open Sys2Proof.Machine

/-- The command a table word spells: none, since no row of the table has bits. -/
def decodeTableWord (_nbits _w : Nat) : Option Instr := none

/-- The management command that a command byte and its argument bytes spell, numbers most significant byte first (R179, Table 10.1).
A byte that names no command spells UNKNOWN_COMMAND with no argument (R156). Absent where the arguments are too few or too many. -/
def managementCommand (code : Byte) (args : List Byte) : Option Instr :=
  match commandArgs code with
  | none => if args = [] then some (.unknownCommand code) else none
  | some _ =>
    match code.toNat, args with
    | 0x01, [] => some .status
    | 0x10, [i] => some (.readRegion i)
    | 0x11, [i, v, m, p, m1, m0, c1, c0] => some (.writeRegion i v m p (m1 ++ m0) (c1 ++ c0))
    | 0x18, [i] => some (.readParam i)
    | 0x19, [i, v3, v2, v1, v0] => some (.writeParam i (v3 ++ v2 ++ v1 ++ v0))
    | 0x20, [t] => some (.setRole t)
    | 0x21, [] => some .startRepair
    | 0x22, [] => some .stopRepair
    | 0x23, [t1, t0] => some (.placeMarker (t1 ++ t0))
    | 0x24, [] => some .readMarkers
    | 0x28, [] => some .relink
    | 0x29, [] => some .promote
    | 0x2A, [] => some .clearFault
    | 0x30, [] => some .readAlerts
    | 0x31, [m1, m0] => some (.ackAlerts (m1 ++ m0))
    | 0x32, [m1, m0] => some (.setAlertEnables (m1 ++ m0))
    | 0x38, [f, n, c] => some (.readCounters f n c)
    | 0x3F, [] => some .resetPart
    | _, _ => none

end Sys2Proof
end

