-- ==== Sys2Proof/Machine/LineCode.lean ====
section
/-! DEFINITION. The 8b/10b line code of the pair link (R180). The data book names the code and does not print its table; the table is the
code's own (log entry 26). A symbol's bits stand in the order sent, the first one the most significant. -/

namespace Sys2Proof.Machine

open Sys2Proof

/-- The six-bit blocks of the low five bits 0 to 31, in the column of negative running disparity. -/
def sixBlocks : List (BitVec 6) :=
  [0b100111, 0b011101, 0b101101, 0b110001, 0b110101, 0b101001, 0b011001, 0b111000,
   0b111001, 0b100101, 0b010101, 0b110100, 0b001101, 0b101100, 0b011100, 0b010111,
   0b011011, 0b100011, 0b010011, 0b110010, 0b001011, 0b101010, 0b011010, 0b111010,
   0b110011, 0b100110, 0b010110, 0b110110, 0b001110, 0b101110, 0b011110, 0b101011]

/-- The four-bit blocks of the high three bits 0 to 7, in the column of negative running disparity. -/
def fourBlocks : List (BitVec 4) := [0b1011, 0b1001, 0b0101, 0b1100, 0b1101, 0b1010, 0b0110, 0b1110]

/-- How many bits of a block are 1. -/
def ones {w : Nat} (v : BitVec w) : Nat := (List.range w).countP fun i => v.getLsbD i

/-- The running disparity at the end of a block: positive after more ones than zeros or after 000111 or 0011, negative after more zeros
than ones or after 111000 or 1100, and otherwise as it was. -/
def disparityAfter {w : Nat} (d : Disparity) (v : BitVec w) : Disparity :=
  if w < 2 * ones v then .positive
  else if 2 * ones v < w then .negative
  else if v.toNat = 2 ^ (w / 2) - 1 then .positive
  else if (~~~v).toNat = 2 ^ (w / 2) - 1 then .negative
  else d

/-- A block of the negative column in the column of a running disparity: in the positive column a block with unequal ones and zeros, and
the blocks 111000 and 1100, are inverted. -/
def inColumn {w : Nat} (d : Disparity) (v : BitVec w) : BitVec w :=
  match d with
  | .negative => v
  | .positive => if 2 * ones v = w ∧ (~~~v).toNat ≠ 2 ^ (w / 2) - 1 then v else ~~~v

/-- The six-bit block of a byte's low five bits. -/
def sixOf (d : Disparity) (x : BitVec 5) : BitVec 6 := inColumn d (sixBlocks.getD x.toNat 0)

/-- Where the high three bits are 7, the alternate block is sent after these low five bits, by the running disparity before it. -/
def alternate (d : Disparity) (x : BitVec 5) : Bool :=
  match d with
  | .negative => x == 17 || x == 18 || x == 20
  | .positive => x == 11 || x == 13 || x == 14

/-- The four-bit block of a byte's high three bits, after its low five. -/
def fourOf (d : Disparity) (x : BitVec 5) (y : BitVec 3) : BitVec 4 :=
  inColumn d (if y = 7 ∧ alternate d x then 0b0111 else fourBlocks.getD y.toNat 0)

/-- The running disparity after a symbol, by its two blocks. -/
def disparityAfterCode (d : Disparity) (c : LineCode) : Disparity :=
  disparityAfter (disparityAfter d (c.extractLsb' 4 6)) (c.extractLsb' 0 4)

/-- A data byte's symbol. -/
def encodeByte (d : Disparity) (b : Byte) : LineCode :=
  let x := b.extractLsb' 0 5
  let six := sixOf d x
  six ++ fourOf (disparityAfter d six) x (b.extractLsb' 5 3)

/-- A control symbol's bits, given in the column of negative running disparity: the positive column holds their inverse. -/
def controlCode (d : Disparity) (c : LineCode) : LineCode :=
  match d with
  | .negative => c
  | .positive => ~~~c

/-- The ten bits of a symbol; the control symbols are K27.7, K29.7 and K28.5 (R180). -/
def symbolCode (d : Disparity) : LineSymbol → LineCode
  | .data b => encodeByte d b
  | .startOfFrame => controlCode d 0b1101101000
  | .endOfFrame => controlCode d 0b1011101000
  | .fill => controlCode d 0b0011111010

/-- A symbol's ten bits by the running disparity, and the running disparity after them (R180). -/
def encodeSymbol (d : Disparity) (y : LineSymbol) : LineCode × Disparity :=
  (symbolCode d y, disparityAfterCode d (symbolCode d y))

/-- The data byte whose symbol is given, in the column of the running disparity. -/
def decodeByte (d : Disparity) (c : LineCode) : Option Byte :=
  let six := c.extractLsb' 4 6
  match (List.range 32).find? fun x => sixOf d (BitVec.ofNat 5 x) == six with
  | none => none
  | some x =>
    match (List.range 8).find? fun y =>
        fourOf (disparityAfter d six) (BitVec.ofNat 5 x) (BitVec.ofNat 3 y) == c.extractLsb' 0 4 with
    | none => none
    | some y => some (BitVec.ofNat 3 y ++ BitVec.ofNat 5 x)

/-- A received symbol, absent when it is none of the 256 data symbols and the three control symbols in the column that the running
disparity calls for (R180). -/
def decodeSymbol (d : Disparity) (c : LineCode) : Option LineSymbol :=
  if c = symbolCode d .startOfFrame then some .startOfFrame
  else if c = symbolCode d .endOfFrame then some .endOfFrame
  else if c = symbolCode d .fill then some .fill
  else (decodeByte d c).map .data

end Sys2Proof.Machine
end

