-- ==== Sys2Proof/Machine/Flags.lean ====
section
/-! DEFINITION. The flags the part computes: counters, alert causes and the ALERT line, the pair state, the STATUS snapshot and the
output pins. -/

namespace Sys2Proof.Machine

open Sys2Proof

/-! ## Counters (R177) -/

/-- A counter's index (Table 9.2). -/
def Counter.index : Counter → Fin 12
  | .recordsSent => 0
  | .recordsResent => 1
  | .naksReceived => 2
  | .framesDiscarded => 3
  | .overflowMarks => 4
  | .stallTimeouts => 5
  | .syncTimeouts => 6
  | .memoryTimeouts => 7
  | .fenceRefusals => 8
  | .alignRefusals => 9
  | .sweepBlocksCopied => 10
  | .recordsApplied => 11

/-- One more, staying at 4,294,967,295 (R177). -/
def saturatingSucc (v : BitVec 32) : BitVec 32 := if v = BitVec.allOnes 32 then v else v + 1

/-- The value of a counter. -/
def State.counter (s : State) (c : Counter) : BitVec 32 := s.counters[c.index]

/-- An increment of a counter (R177). -/
def State.bump (c : Counter) (s : State) : State :=
  { s with counters := s.counters.set c.index (saturatingSucc (s.counter c)) }

/-! ## Alert causes and the ALERT line (R170, R175) -/

/-- A cause's number (Table 9.1). -/
def AlertCause.index : AlertCause → Fin 15
  | .linkUp => 0
  | .linkLost => 1
  | .linkHalted => 2
  | .roleConflict => 3
  | .pairMirrored => 4
  | .pairDegraded => 5
  | .syncTimeout => 6
  | .journalHigh => 7
  | .markerDone => 8
  | .markerFailed => 9
  | .sweepFault => 10
  | .memoryTimeout => 11
  | .applyFault => 12
  | .fenceRefusal => 13
  | .promoted => 14

/-- An occurrence at a cause (R170). -/
def Cause.occur (c : Cause) : Cause :=
  match c.state with
  | .clear => { state := .raised, count := 1 }
  | _ => { c with count := if c.count = 255 then 255 else c.count + 1 }

/-- Whether some enabled cause is RAISED (R175). -/
def AlertUnit.anyEnabledRaised (a : AlertUnit) : Bool :=
  (List.finRange 15).any fun i => a.enables.getLsbD i.val && a.causes[i].state == .raised

/-- Whether any cause is RAISED, whatever its enable (R160). -/
def AlertUnit.anyRaised (a : AlertUnit) : Bool :=
  (List.finRange 15).any fun i => a.causes[i].state == .raised

/-- The line set from the states and enables as they stand (R175). -/
def AlertUnit.settle (a : AlertUnit) : AlertUnit := { a with line := a.anyEnabledRaised }

/-- The cause as the Alert Unit holds it. -/
def State.cause (s : State) (c : AlertCause) : Cause := s.alert.causes[c.index]

/-- An occurrence reported to the Alert Unit, and the line set (R170, R175). -/
def State.report (c : AlertCause) (s : State) : State :=
  { s with alert := AlertUnit.settle { s.alert with causes := s.alert.causes.set c.index (s.cause c).occur } }

/-- READ ALERTS's effect on one cause: RAISED becomes REPORTED and keeps its count (R172). -/
def Cause.afterRead (c : Cause) : Cause :=
  match c.state with
  | .raised => { c with state := .reported }
  | _ => c

/-- ACK ALERTS's effect on a cause named in the mask: REPORTED becomes CLEAR with count 0 (R173). -/
def Cause.acknowledge (c : Cause) : Cause :=
  match c.state with
  | .reported => { state := .clear, count := 0 }
  | _ => c

/-- The causes RAISED, by number, each with its count (R172). -/
def AlertUnit.raisedBytes (a : AlertUnit) : List Byte :=
  (List.finRange 15).flatMap fun i =>
    if a.causes[i].state = .raised then [BitVec.ofNat 8 i.val, a.causes[i].count] else []

/-- How many causes are RAISED (R172). -/
def AlertUnit.raisedCount (a : AlertUnit) : Nat := (List.finRange 15).countP fun i => a.causes[i].state == .raised

/-! ## The pair state (R142, R143) -/

/-- Whether the link is UP. -/
def State.linkUp (s : State) : Bool := s.link.state == .up

/-- Table 7.2, the first row whose condition holds. -/
def State.derivedPair (s : State) : PairState :=
  if s.role ≠ .primary then .alone
  else if s.link.state = .up ∧ s.map.count = 0 ∧ s.sweep.copy = none then .mirrored
  else if s.link.state = .up ∧ (s.sweep.state = .scanning ∨ s.sweep.state = .copying ∨ s.sweep.state = .waiting) then
    .repairing
  else .degraded

/-- The pair state derived afresh, with the alert of entering or leaving MIRRORED (R143). -/
def State.derivePair (s : State) : State :=
  let new := s.derivedPair
  let s' := { s with pair := { s.pair with state := new } }
  if new = .mirrored ∧ s.pair.state ≠ .mirrored then s'.report .pairMirrored
  else if s.pair.state = .mirrored ∧ new ≠ .mirrored then s'.report .pairDegraded
  else s'

/-! ## The STATUS snapshot (R160, Tables 8.3 and 10.4) -/

/-- Byte 1: REPLICA on a replica, otherwise the pair state as last derived (R141). -/
def State.statusPair (s : State) : Byte :=
  match s.role with
  | .replica => replicaPairCode
  | .promoting => replicaPairCode
  | _ => s.pair.state.code

/-- Byte 2: the link state; OFF in role Standalone. -/
def State.statusLink (s : State) : Byte :=
  match s.role with
  | .standalone => LinkState.off.code
  | _ => s.link.state.code

/-- Byte 3: the sweep state on a primary, otherwise IDLE. -/
def State.statusSweep (s : State) : Byte :=
  match s.role with
  | .primary => s.sweep.state.code
  | _ => SweepState.idle.code

/-- Byte 4: the apply state on a replica, otherwise IDLE. -/
def State.statusApply (s : State) : Byte :=
  match s.role with
  | .replica => s.apply.state.code
  | .promoting => s.apply.state.code
  | _ => ApplyState.idle.code

/-- Bytes 5 and 6: journal records on a primary, apply queue records on a replica, otherwise 0. -/
def State.statusOccupancy (s : State) : BitVec 16 :=
  match s.role with
  | .primary => BitVec.ofNat 16 s.journal.records.length
  | .standalone => 0
  | _ => BitVec.ofNat 16 s.receiver.queue.length

/-- Bytes 7 to 9: the dirty count on a primary, otherwise 0. -/
def State.statusDirty (s : State) : BitVec 24 :=
  match s.role with
  | .primary => BitVec.ofNat 24 s.map.count
  | _ => 0

/-- Byte 10: the outstanding markers on a primary, otherwise 0. -/
def State.statusMarkers (s : State) : Byte :=
  match s.role with
  | .primary => BitVec.ofNat 8 s.pair.outstanding.length
  | _ => 0

/-- Byte 11: continuity in bit 0, alert raised in bit 1. -/
def State.statusFlags (s : State) : Byte :=
  0#6 ++ BitVec.ofBool s.alert.anyRaised ++ BitVec.ofBool s.link.continuity

/-- Bytes 12 and 13: last session on a primary, last served otherwise. -/
def State.statusSession (s : State) : SessionNo :=
  match s.role with
  | .primary => s.link.lastSession
  | _ => s.link.lastServed

/-- Bytes 14 and 15: the halt record, both 0 when it is none. -/
def State.statusHalt (s : State) : List Byte :=
  match s.link.haltRecord with
  | some r => [r.reason.code, r.direction.code]
  | none => [0x00, 0x00]

/-- The 16 bytes of the STATUS response (Table 10.4). -/
def State.statusBytes (s : State) : List Byte :=
  [s.role.code, s.statusPair, s.statusLink, s.statusSweep, s.statusApply] ++ bytes16 s.statusOccupancy ++
    bytes24 s.statusDirty ++ [s.statusMarkers, s.statusFlags] ++ bytes16 s.statusSession ++ s.statusHalt

/-! ## Output pins (R152, R153, R155, R182) -/

/-- The ALERT output: low while the Alert Unit asserts it, undriven otherwise and in power-on reset (R182). -/
def State.alertPin (s : State) : PinLevel := if !s.inReset && s.alert.line then .low else .undriven

/-- The byte the port shifts out on MDO: 0xFF up to the result, the result code, the response, 0xFF in the fill. Absent while MDO is not
driven: MSEL is high, or the port waits for it to rise (Table 8.1, R155, R159). -/
def Mgmt.byteOut (m : Mgmt) : Option Byte :=
  match m.phase with
  | .deselected => none
  | .waitingForRise => none
  | .result => some ((m.result.map ResultCode.code).getD 0xFF)
  | .response => some (m.response.getD m.passed 0xFF)
  | _ => some 0xFF

/-- The level of MDO: not driven in power-on reset (R152, R182). -/
def State.mdoPin (s : State) : PinLevel := if s.inReset then .undriven else s.mgmt.mdo

/-- The symbols of a frame on the line (R180). -/
def LinkFrame.symbols (f : LinkFrame) : List LineSymbol := .startOfFrame :: f.encode.map .data ++ [.endOfFrame]

/-- The frame whose symbols the transmitter sends: the one in transmission, once the line fill before it has been sent; none in power-on
reset (R73, R180, R182; log entry 28). -/
def State.frameOnLine (s : State) : Option LinkFrame := if s.inReset || s.wire.fillDue != 0 then none else s.link.tx

/-- The symbol the transmitter sends: the next one of the frame on the line, and FILL while there is none (R180, R182). -/
def State.symbolSent (s : State) : LineSymbol :=
  match s.frameOnLine with
  | some f => f.symbols.getD s.wire.sent .fill
  | none => .fill

/-- The ten bits of that symbol on the line, by the transmitter's running disparity (R180). -/
def State.lineOut (s : State) : LineCode := symbolCode s.wire.txDisparity s.symbolSent

end Sys2Proof.Machine
end

