-- ==== Sys2Proof/Machine/Ops.lean ====
section
/-! DEFINITION. The operations the commands share: the host port's waits, the journal, the dirty map and the sweep, the sender and the
transmitter, the link's transitions and session end, the apply engine, roles and resets. -/

namespace Sys2Proof.Machine

open Sys2Proof

/-- The outcome of one command. -/
abbrev Result := Host.Outcome State Fault Refusal

/-- Nothing happens while the part is held in power-on reset (R182). -/
def State.awake (s : State) (k : Result) : Result := if s.inReset then .next s else k

/-! ## Looking at the state -/

/-- The free-slot count: 256 minus the records minus the claims outstanding (R32). -/
def State.freeSlots (s : State) : Nat :=
  Config.journalSlots - (s.journal.records.length + (if s.host.claim then 1 else 0))

/-- Whether a block's dirty flag is set (R51). -/
def State.isDirty (s : State) (b : Block) : Bool := s.map.flags.contains b

/-- Whether a block is the block in copy (R57). -/
def State.inCopy (s : State) (b : Block) : Bool := s.sweep.copy.any fun c => c.block == b

/-- The mirrored blocks a transaction touches, by the table as it stands (R5, R6). -/
def State.touchedMirrored (s : State) (t : BusTxn) : List Block :=
  (touched s.params.windowBase t).filter (isMirrored s.regions)

/-- The line a transaction's address lies in (R3). -/
def State.txnLine (s : State) (t : BusTxn) : LineIndex := lineOf s.params.windowBase t.addr

/-- Whether a record is a QUEUED LINE record for a line (R35). -/
def Record.takesMerge (r : Record) (l : LineIndex) : Bool :=
  match r.body with
  | .line i _ _ => r.state == .queued && i == l
  | _ => false

/-- Whether the tail of the journal takes a merge for a line (R35). -/
def Journal.tailMerges (j : Journal) (l : LineIndex) : Bool := j.records.getLast?.any fun r => r.takesMerge l

/-- Whether a write to a mirrored block needs the journal (R10). -/
def State.needsJournal (s : State) (b : Block) : Bool := s.linkUp && !(s.isDirty b && !s.inCopy b)

/-- The outcomes 1 to 5 of the admission test (R10). -/
inductive Admission where
  | noJournal
  | claim
  | merge
  | mark
  | wait
  deriving DecidableEq, Repr

/-- The admission test (R10). -/
def State.admission (s : State) (n : NotedBlock) (l : LineIndex) : Admission :=
  if !s.needsJournal n.block then .noJournal
  else if 1 ≤ s.freeSlots then .claim
  else if s.journal.tailMerges l then .merge
  else match n.policy with
    | .mark => .mark
    | .stall => .wait

/-! ## The host port's answers and holds -/

/-- An answer on the host bus: the port returns to IDLE (R1, R9). -/
def State.answer (a : HostAnswer) (s : State) : State := { s with host := { HostPort.idle with answer := some a } }

/-- The port gives up its transaction with no answer (R22). -/
def State.dropHost (s : State) : State := { s with host := HostPort.idle }

/-- The transaction requests the memory port, with or without a claim, its HOLD_LIMIT timer stopped (R9, R10). -/
def State.toPortWait (claim : Bool) (s : State) : State :=
  { s with host := { s.host with state := .portWait, claim := claim, timer := none } }

/-- A write refused for touching a fenced block (R8). -/
def State.refuseFenced (s : State) : State := ((s.answer .fault).bump .fenceRefusals).report .fenceRefusal

/-- The journal told to clear the sync waiter of the carrying record, the one record that has it set (R30). -/
def State.clearWaiter (s : State) : State :=
  { s with journal := { s.journal with records := s.journal.records.map fun r => { r with waiter := false } } }

/-- The carrying record has gone: a hold ends with DONE, a binding is dissolved (R15, R16). -/
def State.releaseHold (s : State) : State :=
  match s.host.state with
  | .syncHold => s.answer .doneWrite
  | .inMemory => { s with host := { s.host with bound := false } }
  | _ => s

/-! ## Free-slot announcements (R48, R61) -/

/-- A fall of the free-slot count reaches a sweep whose request stands: it withdraws at JOURNAL_RESERVE or below and waits, and the
arbiter's sweep wait count restarts (R61, R19). -/
def State.sweepFall (s : State) : State :=
  if s.sweep.request ∧ s.freeSlots ≤ s.params.journalReserve then
    { s with sweep := { s.sweep with state := .waiting, request := false }, mem := { s.mem with sweepWait := 0 } }
  else s

/-- A rise of the free-slot count reaches a WAITING sweep: it places its request when the count exceeds JOURNAL_RESERVE (R61). -/
def State.sweepRise (s : State) : State :=
  if s.sweep.state = .waiting ∧ s.params.journalReserve < s.freeSlots then
    { s with sweep := { s.sweep with state := .copying, request := true } }
  else s

/-- The admission test made again for a write in SPACE_WAIT (R11). A claim taken is announced to the sweep (R48). -/
def State.retestHost (s : State) : State :=
  match s.host.state, s.host.noted, s.host.txn with
  | .spaceWait, some n, some t =>
    match s.admission n (s.txnLine t) with
    | .noJournal => s.toPortWait false
    | .claim => (s.toPortWait true).sweepFall
    | .merge => s.toPortWait false
    | .mark => s
    | .wait => s
  | _, _, _ => s

/-- A rise of the free-slot count announced to the host port and to the sweep, the host port first (R48; log entry 6). -/
def State.announceRise (s : State) : State := s.retestHost.sweepRise

/-- A claim still held is released, and the rise announced (R32, R48). -/
def State.releaseClaim (s : State) : State :=
  if s.host.claim then State.announceRise { s with host := { s.host with claim := false } } else s

/-! ## The dirty map (R51 to R56) -/

/-- A block put into a rising list. -/
def insertBlock (b : Block) : List Block → List Block
  | [] => [b]
  | c :: cs => if b.toNat < c.toNat then b :: c :: cs else c :: insertBlock b cs

/-- A request to set a block's flag: nothing when it is set, otherwise the flag and one more in the count (R52). -/
def DirtyMap.set (m : DirtyMap) (b : Block) : DirtyMap :=
  if m.flags.contains b then m else { m with flags := insertBlock b m.flags, count := m.count + 1 }

/-- A flag cleared and the count lowered (R53). -/
def DirtyMap.clear (m : DirtyMap) (b : Block) : DirtyMap := { m with flags := m.flags.erase b, count := m.count - 1 }

/-- The sweep enters SCANNING, or IDLE in the same event when the dirty count is 0 (R60). -/
def State.enterScanning (s : State) : State :=
  { s with sweep := { s.sweep with state := if s.map.count = 0 then .idle else .scanning } }

/-- An IDLE sweep starts by itself: role Primary, link UP, AUTO_REPAIR 1 and the count 1 or more (R59). -/
def State.autoStart (s : State) : State :=
  if s.role = .primary ∧ s.linkUp ∧ s.sweep.state = .idle ∧ s.params.autoRepair ∧ 1 ≤ s.map.count then s.enterScanning else s

/-- Requests to set flags, accepted only in role Primary (R51); a rise of the count from 0 reaches the sweep (R56, R59). -/
def State.setFlags (bs : List Block) (s : State) : State :=
  if s.role ≠ .primary then s
  else
    let s' := { s with map := bs.foldl DirtyMap.set s.map }
    if s.map.count = 0 then s'.autoStart else s'

/-- Flags set by a host port's event, and the pair state derived from the map as the event left it (R56). -/
def State.markDirty (bs : List Block) (s : State) : State :=
  match bs with
  | [] => s
  | _ => (s.setFlags bs).derivePair

/-- Every mirrored block's flag set and the cursor at 0 (R54). -/
def State.fillMap (s : State) : State :=
  { s with map := { flags := mirroredBlocks s.regions, count := (mirroredBlocks s.regions).length, cursor := 0 } }

/-! ## The journal -/

/-- The high-water tests made at the end of an event that changed the occupancy (R46). -/
def State.waterTest (s : State) : State :=
  if s.journal.armed then
    if s.params.highWater ≤ s.journal.records.length then
      State.report .journalHigh { s with journal := { s.journal with armed := false } }
    else s
  else if s.journal.records.length ≤ s.params.lowWater then { s with journal := { s.journal with armed := true } }
  else s

/-- A record joined at the tail (R31). -/
def State.appendRecord (r : Record) (s : State) : State :=
  { s with journal := { s.journal with records := s.journal.records ++ [r] } }

/-- The LINE record of a write on the append path (R34). -/
def lineRecord (l : LineIndex) (t : BusTxn) (bound : Bool) : Record :=
  { body := .line l (writeMask t) (writeData t), state := .queued, seq := none, waiter := bound }

/-- The placeholder of a sweep read (R37). -/
def placeholder (l : LineIndex) : Record := { body := .image l none, state := .filling, seq := none, waiter := false }

/-- The record of a marker (R40). -/
def markerRecord (tag : Tag) : Record := { body := .marker tag, state := .queued, seq := none, waiter := false }

/-- A write merged into a LINE record (R35). -/
def Record.merge (t : BusTxn) (bound : Bool) (r : Record) : Record :=
  match r.body with
  | .line l m d =>
    { r with body := .line l (m ||| writeMask t) (overlay (writeMask t) (writeData t) d), waiter := r.waiter || bound }
  | _ => r

/-- A change of a list's last entry. -/
def changeLast (f : Record → Record) : List Record → List Record
  | [] => []
  | [r] => [f r]
  | r :: rs => r :: changeLast f rs

/-- The tail record changed (R35). -/
def State.changeTail (f : Record → Record) (s : State) : State :=
  { s with journal := { s.journal with records := changeLast f s.journal.records } }

/-- A FILLING record takes the bytes read and becomes QUEUED in its place (R38). -/
def Record.fill (data : LineBytes) (r : Record) : Record :=
  match r.state, r.body with
  | .filling, .image l _ => { r with body := .image l (some data), state := .queued }
  | _, _ => r

/-- The placeholder filled (R38). -/
def State.fillPlaceholder (data : LineBytes) (s : State) : State :=
  { s with journal := { s.journal with records := s.journal.records.map (Record.fill data) } }

/-- The block of a LINE or IMAGE record (R28). -/
def Record.block? (r : Record) : Option Block :=
  match r.body with
  | .line l _ _ => some (lineBlock l)
  | .image l _ => some (lineBlock l)
  | .marker _ => none

/-- The placeholder withdrawn from wherever it stands, its block's flag set (R39). -/
def State.withdrawPlaceholder (s : State) : State :=
  let gone := s.journal.records.filter fun r => r.state == .filling
  State.setFlags (gone.filterMap Record.block?)
    { s with journal := { s.journal with records := s.journal.records.filter fun r => r.state != .filling } }

/-- Whether a record is SENT or RESEND (R98). -/
def Record.isOutstanding (r : Record) : Bool := r.state == .sent || r.state == .resend

/-- The outstanding count (R98). -/
def Journal.outstanding (j : Journal) : Nat := j.records.countP Record.isOutstanding

/-- Every SENT record becomes RESEND (R42). -/
def Record.rewind (r : Record) : Record := if r.state = .sent then { r with state := .resend } else r

/-- A rewind (R42). -/
def State.rewind (s : State) : State :=
  { s with journal := { s.journal with records := s.journal.records.map Record.rewind } }

/-! ## Markers (R147 to R149) -/

/-- An entry enters the results list at the end, the oldest dropped from a full one (R149). -/
def State.addResult (e : MarkerResult) (s : State) : State :=
  { s with pair := { s.pair with results := s.pair.results.drop (s.pair.results.length + 1 - Config.markerSlots) ++ [e] } }

/-- A MARKER record removed by acknowledgement: its tag, the first of the outstanding list, is REACHED (R147). -/
def State.markerReached (s : State) : State :=
  match s.pair.outstanding with
  | [] => s
  | tag :: rest =>
    (State.addResult { tag := tag, outcome := .reached }
      { s with pair := { s.pair with outstanding := rest } }).report .markerDone

/-- A list of markers FAILED, in order (R148). -/
def failTags : List Tag → State → State
  | [], s => s
  | tag :: rest, s => failTags rest ((s.addResult { tag := tag, outcome := .failed }).report .markerFailed)

/-- Every outstanding marker failed, in placement order (R148). -/
def State.failMarkers (s : State) : State :=
  failTags s.pair.outstanding { s with pair := { s.pair with outstanding := [] } }

/-! ## Removal by acknowledgement (R43) -/

/-- A removed record handed to whatever waits on it (R43). -/
def State.handOff (r : Record) (s : State) : State :=
  match r.body with
  | .marker _ => s.markerReached
  | _ => if r.waiter then s.releaseHold else s

/-- Records removed from the head, one after another. -/
def removeHead : Nat → State → State
  | 0, s => s
  | n + 1, s =>
    match s.journal.records with
    | [] => s
    | r :: rest => removeHead n (State.handOff r { s with journal := { s.journal with records := rest } })

/-- A removal of n records: nothing for n = 0; otherwise the hand-offs, the free slots announced and the occupancy tested (R43). -/
def State.remove (n : Nat) (s : State) : State :=
  match n with
  | 0 => s
  | _ => (removeHead n s).announceRise.waterTest

/-! ## The sender (R98 to R109) -/

/-- Whether the sender is active (R99). -/
def State.senderActive (s : State) : Bool := s.role == .primary && s.linkUp

/-- The oldest number: the head record's, or the next number when nothing is outstanding (R98). -/
def State.oldestNumber (s : State) : SeqNo :=
  match s.journal.records with
  | r :: _ => r.seq.getD s.sender.next
  | [] => s.sender.next

/-- A number's distance from the oldest number, modulo 256 (R103). -/
def State.distance (s : State) (x : SeqNo) : Nat := (x - s.oldestNumber).toNat

/-- What a record carries into a DATA frame (R41). -/
def Record.payload (r : Record) : Payload :=
  match r.body with
  | .line l m d => .line l m d
  | .image l d => .image l (d.getD (Vector.replicate 64 0))
  | .marker t => .marker t

/-- The oldest RESEND record made SENT: that record, and the records after the change (R102). -/
def resendFirst : List Record → Option (Record × List Record)
  | [] => none
  | r :: rs =>
    if r.state = .resend then some (r, { r with state := .sent } :: rs)
    else (resendFirst rs).map fun p => (p.1, r :: p.2)

/-- The oldest QUEUED record made SENT with a number, none if a FILLING record stands before it (R100, R101). -/
def sendFirst (number : SeqNo) : List Record → Option (Record × List Record)
  | [] => none
  | r :: rs =>
    match r.state with
    | .queued => some (r, { r with state := .sent, seq := some number } :: rs)
    | .filling => none
    | _ => (sendFirst number rs).map fun p => (p.1, r :: p.2)

/-- The retransmit timer started with RETX_INTERVAL in force (R108). -/
def State.startRetx (s : State) : State := { s with sender := { s.sender with timer := some s.params.retxInterval } }

/-- The retransmit timer stopped (R108). -/
def State.stopRetx (s : State) : State := { s with sender := { s.sender with timer := none } }

/-- After progress: the retry count 0, the timer restarted while records remain outstanding and stopped otherwise (R104, R106). -/
def State.progress (s : State) : State :=
  let s' := { s with sender := { s.sender with retries := 0 } }
  if s'.journal.outstanding = 0 then s'.stopRetx else s'.startRetx

/-- The sender's and the journal's part of a first send: number given, next number advanced, counted, timer started if none was
outstanding (R101). -/
def State.recordSent (records : List Record) (s : State) : State :=
  let s' := State.bump .recordsSent
    { s with journal := { s.journal with records := records }, sender := { s.sender with next := s.sender.next + 1 } }
  if s.journal.outstanding = 0 then s'.startRetx else s'

/-- The DATA frame that is due, if any, and the state that beginning it leaves: a resend of the oldest RESEND record, or a first send
of the oldest QUEUED record inside the window (R100 to R102). -/
def State.dataFrame (s : State) : Option (LinkFrame × State) :=
  if !s.senderActive then none
  else match resendFirst s.journal.records with
    | some (r, records) =>
      some (.data (r.seq.getD 0) r.payload,
        State.bump .recordsResent { s with journal := { s.journal with records := records } })
    | none =>
      if s.params.windowSize ≤ s.journal.outstanding then none
      else (sendFirst s.sender.next s.journal.records).map fun p =>
        (.data s.sender.next p.1.payload, s.recordSent p.2)

/-! ## Session numbers (R77) -/

/-- The successor of a session number. -/
def successor (n : SessionNo) : SessionNo := if n = 65535 then 1 else n + 1

/-- The predecessor of a session number; session 0 has none. -/
def predecessor (n : SessionNo) : Option SessionNo := if n = 0 then none else if n = 1 then some 65535 else some (n - 1)

/-! ## The transmitter (R78) -/

/-- A frame in transmission, with the due flags left. -/
def State.transmit (f : LinkFrame) (due : Due) (s : State) : State := { s with link := { s.link with tx := some f, due := due } }

/-- The role of a HELLO (R80, R84). -/
def State.helloFrame (s : State) : Hello :=
  match s.role with
  | .primary =>
    { role := .primary, pairId := s.params.pairId,
      session := successor s.link.lastSession,
      continuity := false, queueEmpty := true }
  | _ =>
    { role := .replica, pairId := s.params.pairId, session := s.link.lastServed,
      continuity := s.link.continuity, queueEmpty := s.receiver.queue.isEmpty }

/-- The mode a START carries: the decided mode (R81). -/
def TrainPhase.mode : TrainPhase → SessionMode
  | .start m => m
  | .hello => .full

/-- A free transmitter begins the first due frame, in the order HALT, READY, START, HELLO, NAK, ACK, DATA, IDLE (R78). -/
def State.kick (s : State) : State :=
  let d := s.link.due
  if s.link.tx.isSome then s
  else match d.halt with
    | some r => s.transmit (.halt r) { d with halt := none }
    | none =>
      if d.ready then s.transmit (.ready s.link.lastServed) { d with ready := false }
      else if d.start then s.transmit (.start s.link.lastSession s.link.phase.mode) { d with start := false }
      else if d.hello then s.transmit (.hello s.helloFrame) { d with hello := false }
      else if d.nak then s.transmit (.nak s.receiver.expected) { d with nak := false }
      else if d.ack then s.transmit (.ack s.receiver.appliedThrough) { d with ack := false }
      else match s.dataFrame with
        | some (f, s') => s'.transmit f d
        | none => if d.idle then s.transmit .idle { d with idle := false } else s

/-- Line fill stands before the next frame: at least one FILL symbol, and none of that frame's symbols sent yet (R73; log entry 28). -/
def State.lineFill (s : State) : State :=
  { s with wire := { s.wire with sent := 0, fillDue := Config.moreFill s.freeIndex + 1 }, freeIndex := s.freeIndex + 1 }

/-- The end of an event that changed what the pair state depends on: derived once, then the transmitter (R141, R78). -/
def State.finish (s : State) : State := s.derivePair.kick

/-! ## Link transitions (R76, R78, R79, R93, R94) -/

/-- The due flags that a link state's frames keep (Table 4.2, R78). -/
def Due.keep (d : Due) : LinkState → Due
  | .off => { Due.nothing with halt := d.halt }
  | .halted => { Due.nothing with halt := d.halt }
  | .training => { Due.nothing with hello := d.hello, start := d.start, halt := d.halt }
  | .up => { d with hello := false, start := false, halt := none }

/-- A change of link state: the due flags it does not send cleared, and the three timers stopped (R78, R79). -/
def State.setLink (dest : LinkState) (s : State) : State :=
  { s with link := { s.link with state := dest, due := s.link.due.keep dest, repeatRun := false, keepaliveRun := false,
                                  silence := none } }

/-- A training episode begins: conflict-reported clear, HELLO due, the repeat timer running, the HELLO phase (R76, R80). -/
def State.beginEpisode (s : State) : State :=
  { s with link := { s.link with phase := .hello, conflictReported := false, due := { s.link.due with hello := true },
                                  repeatRun := true } }

/-- The link enters TRAINING (R76). -/
def State.enterTraining (s : State) : State := (s.setLink .training).beginEpisode

/-- The silence timer started or restarted with SILENCE_LIMIT in force (R88). -/
def State.restartSilence (s : State) : State := { s with link := { s.link with silence := some s.params.silenceLimit } }

/-- The link enters UP: the silence and keepalive timers start, LINK_UP is reported (R76, R83, R85). -/
def State.enterUp (s : State) : State :=
  let s' := (s.setLink .up).restartSilence
  State.report .linkUp { s' with link := { s'.link with keepaliveRun := true } }

/-- A HALT made due with its reason, and the halt record set to it as sent (R92, R96). -/
def State.dueHalt (r : HaltReason) (s : State) : State :=
  { s with link := { s.link with due := { s.link.due with halt := some r },
                                  haltRecord := some { reason := r, direction := .sent } } }

/-- The copy ends: no block in copy, no request, no stop pending (R65, R67 to R69). -/
def State.endCopy (dest : SweepState) (s : State) : State :=
  { s with sweep := { s.sweep with state := dest, copy := none, request := false, stopPending := false } }

/-- A standing request of the sweep withdrawn; the arbiter's sweep wait count restarts (R18, R19). -/
def State.withdrawRequest (s : State) : State :=
  if s.sweep.request then
    { s with sweep := { s.sweep with request := false }, mem := { s.mem with sweepWait := 0 } }
  else s

/-- The flag of the block in copy set, if a block is in copy. -/
def State.remarkCopy (s : State) : State :=
  match s.sweep.copy with
  | some c => s.setFlags [c.block]
  | none => s

/-- The sweep when the link leaves UP: a copy is given back to the map, a standing request withdrawn, a read in flight orphaned, and
the sweep goes to IDLE unless it is STOPPED (R69). -/
def State.sweepLinkDown (s : State) : State :=
  match s.sweep.state with
  | .idle => s
  | .stopped => s
  | _ =>
    let s' := s.remarkCopy.withdrawRequest.endCopy .idle
    { s' with sweep := { s'.sweep with read := s'.sweep.read.map fun r => { r with current := false } } }

/-- The host port at a session end: a hold ends with DONE, a bound write in memory is unbound (R23). -/
def State.hostSessionEnd (s : State) : State := s.releaseHold

/-- Step 7 of the session end, and R98: the sender's reset values. -/
def State.resetSender (s : State) : State := { s with sender := Sender.powerOn }

/-- The session end on a primary, the link state already changed (R45). Pair Control's derivation ends the event (`finish`). -/
def State.sessionEnd (s : State) : State :=
  let s := s.setFlags (s.journal.records.filterMap Record.block?)
  let s := s.failMarkers
  let s := { s with journal := { s.journal with records := [] } }
  let s := s.hostSessionEnd
  let s := s.sweepLinkDown.retestHost
  s.resetSender.waterTest

/-- A departure of the link from UP: a session end on a primary, and on a replica the end of reception (R93, R94). -/
def State.departUp (dest : LinkState) (s : State) : State :=
  let s' := s.setLink dest
  if s.role = .primary then s'.sessionEnd else s'

/-- The link leaves UP for TRAINING and LINK_LOST is reported (R86, R88, R89). -/
def State.loseLink (s : State) : State := ((s.departUp .training).beginEpisode).report .linkLost

/-- A local halt, by the link state at the moment it is asked (R92). -/
def State.localHalt (r : HaltReason) (s : State) : State :=
  match s.link.state with
  | .up => (((s.dueHalt r).departUp .halted)).report .linkHalted
  | .training => ((s.dueHalt r).setLink .halted).report .linkHalted
  | _ => s

/-! ## The apply engine (R123, R126) -/

/-- A record applied: applied-through, the counter, and an ACK due while the link is UP (R126, steps 2 to 4). -/
def State.recordApplied (r : QueueRecord) (s : State) : State :=
  let s' := State.bump .recordsApplied { s with receiver := { s.receiver with appliedThrough := r.seq } }
  if s.linkUp then { s' with link := { s'.link with due := { s'.link.due with ack := true } } } else s'

/-- The engine, IDLE, takes the head of a queue: a record that needs no transaction is applied at once and the next one taken; for
any other the first transaction is requested (R123). -/
def takeQueue : List QueueRecord → State → State
  | [], s => { s with receiver := { s.receiver with queue := [] }, apply := ApplyEngine.idle }
  | r :: rest, s =>
    match recordTxns s.params.windowBase r.payload with
    | [] => takeQueue rest (State.recordApplied r { s with receiver := { s.receiver with queue := rest } })
    | t :: ts =>
      { s with receiver := { s.receiver with queue := r :: rest },
               apply := { state := .applying, todo := t :: ts, request := true } }

/-- A promotion ends at the event that finds the apply queue empty in role Replica-promoting (R134, R21). -/
def State.endPromotion (s : State) : State :=
  if s.role = .promoting ∧ s.receiver.queue = [] then
    State.report .promoted { s with role := .standalone, mem := { s.mem with sweepWait := 0, applyRun := 0 } }
  else s

/-- The apply queue emptied and the engine IDLE with no context (R129, R132, R133). -/
def State.discardQueue (s : State) : State :=
  { s with receiver := { s.receiver with queue := [] }, apply := ApplyEngine.idle }

/-! ## The memory port (R18 to R21) -/

/-- The port becomes free. -/
def State.freePort (s : State) : State := { s with mem := { s.mem with use := none } }

/-- A granted transaction starts at memory under MEM_LIMIT in force (R18). -/
def State.startMemory (owner : PortOwner) (t : BusTxn) (s : State) : State :=
  { s with mem := { s.mem with use := some { owner := owner, txn := t, limit := s.params.memLimit } } }

/-- Both arbiter counts 0 (R21). -/
def State.restartCounts (s : State) : State := { s with mem := { s.mem with sweepWait := 0, applyRun := 0 } }

/-- A sweep read or an apply write in memory is abandoned and the port freed; a host transaction runs on (R21). -/
def MemPort.abandonOwn (m : MemPort) : MemPort :=
  match m.use with
  | some u => match u.owner with
    | .sweep => { m with use := none }
    | .apply => { m with use := none }
    | _ => m
  | none => m

/-- Whether a transaction of the host port's making is in memory, held or abandoned by INIT (R22, R137). -/
def State.hostUse (s : State) : Option BusTxn :=
  match s.mem.use with
  | some u => match u.owner with
    | .host => some u.txn
    | .abandonedHost => some u.txn
    | _ => none
  | none => none

/-! ## Resets (R25, R26, R97, R168) -/

/-- The host port at a soft reset, by its state (R25). -/
def HostPort.softReset (h : HostPort) : HostPort :=
  match h.state with
  | .idle => h
  | .spaceWait => { h with state := .portWait, claim := false, timer := none }
  | .portWait => { h with claim := false }
  | .inMemory => { h with bound := false }
  | .syncHold => { HostPort.idle with answer := some .doneWrite }

/-- RESET PART: every block at its power-on values, but for the region table, the parameters, the host port (R25), a host transaction
in memory (R21) and the management port (R159, R168). The running disparities of the line go on (log entry 27), and line fill stands before the next frame. -/
def State.softReset (s : State) : State :=
  State.lineFill
    { State.reset with
      pending := s.pending, lines := s.lines, freeIndex := s.freeIndex, inReset := s.inReset, regions := s.regions, params := s.params,
      wire := { Wire.powerOn with txDisparity := s.wire.txDisparity, rxDisparity := s.wire.rxDisparity },
      host := s.host.softReset, mem := { s.mem.abandonOwn with sweepWait := 0, applyRun := 0 }, mgmt := s.mgmt }

/-- A power-on reset: every block at its power-on values, and the part held until its release (R26, R182). The model's own queues and
free-value counter stay, the counter past the value drawn for the line fill. -/
def State.powerOnReset (s : State) : State :=
  State.lineFill { State.reset with pending := s.pending, lines := s.lines, freeIndex := s.freeIndex, inReset := true }

end Sys2Proof.Machine
end

