-- ==== Sys2Proof/Machine/ApplyEvents.lean ====
section
/-! DEFINITION. The commands of the apply engine's transactions at the memory port (chapter 6). -/

namespace Sys2Proof.Machine

open Sys2Proof

/-- Whether a grant is made to the apply engine (R18, R20). -/
def State.applyGrantable (s : State) : Bool :=
  (s.role == .replica || s.role == .promoting) && s.apply.request && s.mem.use.isNone &&
    (s.host.state != .portWait || s.mem.applyRun < s.params.applyBurst)

/-- APPLY_GRANT (R125): the transaction starts at memory and the run count rises by 1. -/
def execApplyGrant (s : State) : Result :=
  s.awake <|
    match s.apply.todo with
    | t :: _ =>
      if s.applyGrantable then
        let s' := s.startMemory .apply t
        .next { s' with mem := { s'.mem with applyRun := s.mem.applyRun + 1 }, apply := { s.apply with request := false } }
      else .next s
    | [] => .next s

/-- Whether an apply transaction is in memory. -/
def State.applyInMemory (s : State) : Bool := s.mem.use.any fun u => u.owner == .apply

/-- The head record applied and the next one taken (R126). -/
def State.applyHead (s : State) : State :=
  match s.receiver.queue with
  | r :: rest => takeQueue rest (State.recordApplied r { s with receiver := { s.receiver with queue := rest } })
  | [] => s

/-- A completed transaction of the head record: the next one requested, or the record applied (R126). -/
def State.completeApply (s : State) : State :=
  match s.apply.todo with
  | _ :: t :: ts => { s with apply := { s.apply with todo := t :: ts, request := true } }
  | _ => s.applyHead.endPromotion

/-- APPLY_COMPLETION (R126). -/
def execApplyCompletion (s : State) : Result :=
  s.awake <|
    if s.applyInMemory ∧ s.apply.state = .applying then .next s.freePort.completeApply.finish else .next s

/-- APPLY_TIMEOUT (R127, R133): the engine in FAULT with its queue frozen, APPLY_FAULT, continuity clear, a local halt asked for; in
role Replica-promoting the queue is then discarded and the promotion ends. -/
def execApplyTimeout (s : State) : Result :=
  s.awake <|
    if s.applyInMemory ∧ s.apply.state = .applying then
      let s' := { s.freePort with apply := { state := .fault, todo := [], request := false },
                                  link := { s.link with continuity := false } }
      let s' := (s'.report .applyFault).localHalt .applyFault
      .next (if s.role = .promoting then s'.discardQueue.endPromotion else s').finish
    else .next s

end Sys2Proof.Machine
end

