-- ==== Sys2Proof/Machine/Frames.lean ====
section
/-! DEFINITION. The commands that take a frame of the pair link (chapters 4 to 6). -/

namespace Sys2Proof.Machine

open Sys2Proof

/-! ## Taking a frame (R73, R75, R88) -/

/-- The taking of a frame, for the command of frames of type `k`. In OFF it is ignored without a check; a frame that fails a check of
R75 is discarded and counted; a valid frame restarts the silence timer while UP and acts by its type. A valid frame of another
type is no event of this command (log entry 5). -/
def State.receive (s : State) (k : FrameType) (bytes : List Byte) (act : LinkFrame → State → State) : Result :=
  s.awake <|
    if s.link.state = .off then .next s
    else match checkFrame bytes with
      | none => .next (s.bump .framesDiscarded)
      | some f =>
        if f.type = k then .next (act f (if s.linkUp then s.restartSilence else s)) else .next s

/-! ## HELLO (R80 to R82, R84, R87, R89) -/

/-- A conflicting HELLO: ROLE_CONFLICT once in a training episode (R87). -/
def State.roleConflict (s : State) : State :=
  if s.link.conflictReported then s
  else State.report .roleConflict { s with link := { s.link with conflictReported := true } }

/-- Whether a HELLO conflicts with a part in role `own` (R80, R84). -/
def State.conflicts (s : State) (own : HelloRole) (h : Hello) : Bool := h.role == own || h.pairId != s.params.pairId

/-- The mode decided from a HELLO (R81). -/
def State.decideMode (s : State) (h : Hello) : SessionMode :=
  if h.session = s.link.lastSession ∧ s.link.lastSession ≠ 0 ∧ h.continuity then .incremental else .full

/-- The mode decision: last session advances, the map is filled on FULL, the START phase begins with START due in place of HELLO and
the repeat timer restarted (R81). -/
def State.decide (h : Hello) (s : State) : State :=
  let m := s.decideMode h
  let s' := { s with link := { s.link with lastSession := successor s.link.lastSession, phase := .start m, repeatRun := true,
                                            due := { s.link.due with start := true, hello := false } } }
  match m with
  | .full => s'.fillMap
  | .incremental => s'

/-- Whether an acceptable HELLO lets an INCREMENTAL decision stand (R82). -/
def State.incrementalStands (s : State) (h : Hello) : Bool :=
  h.continuity && (h.session == s.link.lastSession || predecessor s.link.lastSession == some h.session)

/-- An acceptable HELLO in the START phase checked against the decision (R82). -/
def State.recheck (m : SessionMode) (h : Hello) (s : State) : State :=
  match m with
  | .full => s
  | .incremental =>
    if s.incrementalStands h then s
    else State.fillMap { s with link := { s.link with phase := .start .full } }

/-- A HELLO tested in TRAINING (R80, R82, R84). -/
def State.testHello (h : Hello) (s : State) : State :=
  match s.role with
  | .primary =>
    if s.conflicts .primary h then s.roleConflict
    else if h.queueEmpty then
      match s.link.phase with
      | .hello => s.decide h
      | .start m => s.recheck m h
    else s
  | .replica => if s.conflicts .replica h then s.roleConflict else s
  | _ => s

/-- A valid HELLO taken: tested in TRAINING; in UP the link first leaves UP for TRAINING (R89). -/
def State.takeHello (f : LinkFrame) (s : State) : State :=
  match f with
  | .hello h =>
    match s.link.state with
    | .training => (s.testHello h).finish
    | .up => (s.loseLink.testHello h).finish
    | _ => s
  | _ => s

/-- RECEIVE_HELLO (R80). -/
def execReceiveHello (bytes : List Byte) (s : State) : Result := s.receive .hello bytes State.takeHello

/-! ## START (R85, R86, R116) -/

/-- Whether a START taken in TRAINING is accepted (R85). -/
def State.acceptsStart (s : State) (session : SessionNo) (mode : SessionMode) : Bool :=
  s.receiver.queue.isEmpty &&
    match mode with
    | .full => true
    | .incremental =>
      s.link.continuity && (session == s.link.lastServed || session == successor s.link.lastServed)

/-- READY made due. -/
def State.dueReady (s : State) : State := { s with link := { s.link with due := { s.link.due with ready := true } } }

/-- A START accepted: the session served, the receiver's session begun, READY due, the link UP (R85, R116). -/
def State.acceptStart (session : SessionNo) (s : State) : State :=
  State.enterUp <| State.dueReady
    { s with link := { s.link with lastServed := session, continuity := true },
             receiver := { s.receiver with expected := 0, appliedThrough := 255, nakPending := false } }

/-- A START tested in TRAINING (R85). -/
def State.testStart (session : SessionNo) (mode : SessionMode) (s : State) : State :=
  if s.acceptsStart session mode then s.acceptStart session else s

/-- A valid START taken on a replica; a primary ignores it (R85, R86, Table 4.4). -/
def State.takeStart (f : LinkFrame) (s : State) : State :=
  match f with
  | .start session mode =>
    if s.role ≠ .replica then s
    else match s.link.state with
      | .training => (s.testStart session mode).finish
      | .up =>
        if session = s.link.lastServed then s.dueReady.kick
        else (s.loseLink.testStart session mode).finish
      | _ => s
  | _ => s

/-- RECEIVE_START (R85). -/
def execReceiveStart (bytes : List Byte) (s : State) : Result := s.receive .start bytes State.takeStart

/-! ## READY (R83, R58, R99) -/

/-- The sweep at link UP (R58). -/
def State.sweepLinkUp (s : State) : State :=
  if s.sweep.state = .idle then
    if s.params.autoRepair then s.enterScanning
    else { s with sweep := { s.sweep with state := .stopped } }
  else s

/-- A valid READY for last session in the START phase: the link is UP, and the sender, the sweep and Pair Control are told in that
order (R83). -/
def State.takeReady (f : LinkFrame) (s : State) : State :=
  match f, s.link.phase with
  | .ready session, .start _ =>
    if s.role = .primary ∧ s.link.state = .training ∧ session = s.link.lastSession then
      s.enterUp.resetSender.sweepLinkUp.finish
    else s
  | _, _ => s

/-- RECEIVE_READY (R83). -/
def execReceiveReady (bytes : List Byte) (s : State) : Result := s.receive .ready bytes State.takeReady

/-! ## DATA (R117 to R120) -/

/-- An ACK made due while the link is UP (R119, R122). -/
def State.dueAck (s : State) : State := { s with link := { s.link with due := { s.link.due with ack := true } } }

/-- A gap: one NAK for it (R120). -/
def State.gap (s : State) : State :=
  if s.receiver.nakPending then s
  else { s with receiver := { s.receiver with nakPending := true },
                link := { s.link with due := { s.link.due with nak := true } } }

/-- A record accepted in order; an IDLE engine takes it in the same event (R118, R123). -/
def State.acceptData (r : QueueRecord) (s : State) : State :=
  let s' := { s with receiver := { s.receiver with queue := s.receiver.queue ++ [r], expected := s.receiver.expected + 1,
                                                    nakPending := false } }
  if s.apply.state = .idle then takeQueue s'.receiver.queue s' else s'

/-- The frame placed by its lag, the expected number minus its number modulo 256 (R117). -/
def State.placeData (r : QueueRecord) (s : State) : State :=
  let lag := (s.receiver.expected - r.seq).toNat
  if lag = 0 then
    if s.receiver.queue.length < Config.queueSlots then s.acceptData r else s.gap
  else if lag ≤ 32 then s.dueAck
  else s.gap

/-- A valid DATA frame taken by an active receiver: role Replica and link UP (R115). -/
def State.takeData (f : LinkFrame) (s : State) : State :=
  match f with
  | .data seq payload =>
    if s.role = .replica ∧ s.linkUp then (s.placeData { seq := seq, payload := payload }).kick else s
  | _ => s

/-- RECEIVE_DATA (R117). -/
def execReceiveData (bytes : List Byte) (s : State) : Result := s.receive .data bytes State.takeData

/-! ## ACK and NAK (R104, R106) -/

/-- A valid ACK taken by an active sender: accepted when its number is outstanding (R104). -/
def State.takeAck (f : LinkFrame) (s : State) : State :=
  match f with
  | .ack a =>
    if s.senderActive ∧ s.distance a < s.journal.outstanding then (s.remove (s.distance a + 1)).progress.kick else s
  | _ => s

/-- RECEIVE_ACK (R104). -/
def execReceiveAck (bytes : List Byte) (s : State) : Result := s.receive .ack bytes State.takeAck

/-- Whether a NAK's removal holds a record back: a MARKER record, or one whose sync waiter is set (R106). -/
def Record.heldBack (r : Record) : Bool :=
  r.waiter || match r.body with
    | .marker _ => true
    | _ => false

/-- How many of the d records before a NAK's number it removes: those before the first held back (R106). -/
def Journal.nakRemoves (j : Journal) (d : Nat) : Nat := ((j.records.take d).takeWhile fun r => !r.heldBack).length

/-- A NAK accepted at distance d: the removal, the rewind, and the timer by what was removed and what remains (R106). -/
def State.acceptNak (d : Nat) (s : State) : State :=
  let n := s.journal.nakRemoves d
  let s' := (s.remove n).rewind
  if n = 0 then if s'.journal.outstanding = 0 then s'.stopRetx else s' else s'.progress

/-- A valid NAK taken by an active sender: counted, and accepted when its number is outstanding or next in line (R106). -/
def State.takeNak (f : LinkFrame) (s : State) : State :=
  match f with
  | .nak e =>
    if s.senderActive then
      let s' := s.bump .naksReceived
      if s'.distance e ≤ s'.journal.outstanding then (s'.acceptNak (s'.distance e)).kick else s'
    else s
  | _ => s

/-- RECEIVE_NAK (R106). -/
def execReceiveNak (bytes : List Byte) (s : State) : Result := s.receive .nak bytes State.takeNak

/-! ## IDLE, HALT and truncated frames -/

/-- RECEIVE_IDLE (R88): beyond the silence timer, an IDLE frame changes nothing. -/
def execReceiveIdle (bytes : List Byte) (s : State) : Result := s.receive .idle bytes fun _ s => s

/-- A valid HALT taken while UP: HALTED, LINK_HALTED, and the reason recorded as received (R91). -/
def State.takeHalt (f : LinkFrame) (s : State) : State :=
  match f with
  | .halt r =>
    if s.linkUp then
      let s' := (s.departUp .halted).report .linkHalted
      State.finish { s' with link := { s'.link with haltRecord := some { reason := r, direction := .received } } }
    else s
  | _ => s

/-- RECEIVE_HALT (R91). -/
def execReceiveHalt (bytes : List Byte) (s : State) : Result := s.receive .halt bytes State.takeHalt

/-- TRUNCATED_FRAME (R180): discarded as failing the length check, whatever was gathered and whatever symbol cut it short; counted
except in OFF (R75). -/
def execTruncatedFrame (_bytes : List Byte) (_symbol : TruncatingSymbol) (s : State) : Result :=
  s.awake <| if s.link.state = .off then .next s else .next (s.bump .framesDiscarded)

end Sys2Proof.Machine
end

