-- ==== Sys2Proof/Machine/HostPort.lean ====
section
/-! DEFINITION. The commands of the host port and of its transactions at the memory port (chapter 1). -/

namespace Sys2Proof.Machine

open Sys2Proof

/-! ## Arrival (R6 to R8, R10) -/

/-- Whether the port takes a presented transaction: IDLE, and the memory port not held by a transaction INIT abandoned (R1). -/
def State.hostReady (s : State) : Bool :=
  s.host.state == .idle && !(s.mem.use.any fun u => u.owner == .abandonedHost)

/-- A misaligned LINE write refused on a primary (R7). -/
def State.refuseMisaligned (s : State) : State := (s.answer .fault).bump .alignRefusals

/-- The block a primary mirrored write touches, noted with its mode and policy (R10). -/
def State.note (b : Block) (s : State) : NotedBlock :=
  { block := b, mode := blockMode s.regions b, policy := blockPolicy s.regions b }

/-- Admission of a primary mirrored write, by the outcome of its test (R10). A claim taken is announced to the sweep (R48). -/
def State.admitWrite (t : BusTxn) (b : Block) (s : State) : State :=
  let n := s.note b
  let s' := { s with host := { s.host with noted := some n } }
  match s.admission n (s.txnLine t) with
  | .noJournal => s'.toPortWait false
  | .claim => (s'.toPortWait true).sweepFall
  | .merge => s'.toPortWait false
  | .mark => ((s'.toPortWait false).bump .overflowMarks).markDirty [b]
  | .wait => { s' with host := { s'.host with state := .spaceWait, timer := some s.params.holdLimit } }

/-- The classification of an arrived transaction by the role at that moment (Table 1.3). -/
def State.classify (t : BusTxn) (s : State) : State :=
  match s.role with
  | .standalone => s.toPortWait false
  | .primary =>
    match s.touchedMirrored t with
    | [] => s.toPortWait false
    | b :: _ => if misalignedLineWrite t then s.refuseMisaligned else s.admitWrite t b
  | _ =>
    match s.touchedMirrored t with
    | [] => s.toPortWait false
    | _ => s.refuseFenced

/-- ARRIVAL (R6). A transaction the port cannot take yet stays presented, and the part has not seen it (R1). -/
def execArrival (t : BusTxn) (s : State) : Result :=
  s.awake <|
    if s.hostReady then .next (State.classify t { s with host := { HostPort.idle with txn := some t } })
    else .next s

/-! ## INIT (R22) -/

/-- INIT by the host port's state (R22). -/
def State.abandon (s : State) : State :=
  match s.host.state with
  | .idle => s
  | .spaceWait => s.dropHost
  | .portWait => if s.host.claim then s.dropHost.announceRise else s.dropHost
  | .inMemory =>
    let s' := if s.host.bound then s.clearWaiter else s
    { s'.dropHost with mem := { s'.mem with use := s'.mem.use.map fun u =>
        if u.owner = .host then { u with owner := .abandonedHost } else u } }
  | .syncHold => s.clearWaiter.dropHost

/-- INIT (R22): the held transaction is abandoned without an answer. -/
def execInit (s : State) : Result := s.awake <| .next s.abandon

/-! ## The grant (R13, R14, R19, R20) -/

/-- Whether the arbiter of the role grants the host port when the port is free and its request stands (R19 to R21). -/
def State.arbiterFavoursHost (s : State) : Bool :=
  match s.role with
  | .standalone => true
  | .primary => !s.sweep.request || s.mem.sweepWait < s.params.sweepShare
  | _ => !s.apply.request || s.params.applyBurst ≤ s.mem.applyRun

/-- Whether a grant is made to the host port (R18). -/
def State.hostGrantable (s : State) : Bool :=
  s.host.state == .portWait && s.host.txn.isSome && s.mem.use.isNone && s.arbiterFavoursHost

/-- The arbiter's counts at a grant to the host port (R19, R20). -/
def State.countHostGrant (s : State) : State :=
  match s.role with
  | .standalone => s
  | .primary =>
    if s.sweep.request then { s with mem := { s.mem with sweepWait := s.mem.sweepWait + 1 } } else s
  | _ => { s with mem := { s.mem with applyRun := 0 } }

/-- A forwarded transaction: IN_MEMORY, and the transaction started at memory with its fields unchanged (R2, R13). -/
def State.forward (t : BusTxn) (s : State) : State :=
  State.startMemory .host t { s with host := { s.host with state := .inMemory } }

/-- Whether a write on the coalesce or append path is bound (R14). -/
def State.binds (b : Block) (s : State) : Bool := blockMode s.regions b == .sync && s.pair.state == .mirrored

/-- The paths of Table 1.6. -/
inductive WritePath where
  | dirty
  | degraded
  | coalesce
  | append
  | marked
  deriving DecidableEq, Repr

/-- The first row of Table 1.6 whose condition holds. -/
def State.writePath (t : BusTxn) (b : Block) (s : State) : WritePath :=
  if s.isDirty b && !s.inCopy b then .dirty
  else if !s.linkUp then .degraded
  else if s.journal.tailMerges (s.txnLine t) then .coalesce
  else if s.host.claim then .append
  else .marked

/-- Table 1.6's columns: the journal, the dirty map, the claim and the binding (R13, R14, R34, R35). What the append path queued may be
sent at once (R100). -/
def State.settlePath (t : BusTxn) (b : Block) (s : State) : State :=
  match s.writePath t b with
  | .dirty => s.releaseClaim
  | .degraded => s.releaseClaim.markDirty [b]
  | .coalesce =>
    State.releaseClaim { s.changeTail (Record.merge t (s.binds b)) with host := { s.host with bound := s.binds b } }
  | .append =>
    (State.waterTest { s.appendRecord (lineRecord (s.txnLine t) t (s.binds b)) with
      host := { s.host with claim := false, bound := s.binds b } }).kick
  | .marked => s.markDirty [b]

/-- The settlement of a granted transaction by the role at the grant (R13). -/
def State.settleGrant (t : BusTxn) (s : State) : State :=
  match s.role with
  | .standalone => s.releaseClaim.forward t
  | .primary =>
    match s.touchedMirrored t with
    | [] => s.releaseClaim.forward t
    | b :: bs =>
      if misalignedLineWrite t then (s.releaseClaim.markDirty (b :: bs)).forward t
      else (s.settlePath t b).forward t
  | _ =>
    match s.touchedMirrored t with
    | [] => s.releaseClaim.forward t
    | _ => s.refuseFenced

/-- HOST_GRANT (R13): the arbiter's counts, then the settlement. -/
def execHostGrant (s : State) : Result :=
  s.awake <|
    match s.host.txn with
    | some t => if s.hostGrantable then .next (s.countHostGrant.settleGrant t) else .next s
    | none => .next s

/-! ## Completion and timeout at memory (R15 to R18) -/

/-- Memory completes the host port's transaction (R9, R15). -/
def State.completeHost (t : BusTxn) (data : LineBytes) (s : State) : State :=
  if s.host.bound then
    { s with host := { s.host with state := .syncHold, timer := some s.params.holdLimit } }
  else s.answer (doneAnswer t data)

/-- HOST_MEMORY_COMPLETION (R15). The completion of a transaction INIT abandoned is discarded (R22); without a host transaction in
memory there is nothing to complete (R18). -/
def execHostMemoryCompletion (data : LineBytes) (s : State) : Result :=
  s.awake <|
    match s.mem.use with
    | some u => match u.owner with
      | .host => .next (s.freePort.completeHost u.txn data)
      | .abandonedHost => .next s.freePort
      | _ => .next s
    | none => .next s

/-- What a host memory timeout does beside the answer: the alert, the counter, and on a primary the dirty flags of the blocks a write
touches (R17). -/
def State.hostTimeout (t : BusTxn) (s : State) : State :=
  let s' := (State.bump .memoryTimeouts s).report .memoryTimeout
  if s.role = .primary then s'.markDirty (s'.touchedMirrored t) else s'

/-- HOST_MEMORY_TIMEOUT (R17). -/
def execHostMemoryTimeout (s : State) : Result :=
  s.awake <|
    match s.mem.use with
    | some u => match u.owner with
      | .host =>
        let s' := if s.host.bound then s.clearWaiter else s
        .next (State.hostTimeout u.txn (s'.freePort.answer .fault))
      | .abandonedHost => .next (s.freePort.hostTimeout u.txn)
      | _ => .next s
    | none => .next s

/-- ABANDONED_TRANSACTION_ANSWER (R18): an answer memory gives for an abandoned transaction is discarded. -/
def execAbandonedTransactionAnswer (_data : LineBytes) (s : State) : Result := .next s

/-! ## The HOLD_LIMIT expiries (R12, R16) -/

/-- SPACE_WAIT_EXPIRY (R12): the write goes the MARK way. -/
def execSpaceWaitExpiry (s : State) : Result :=
  s.awake <|
    match s.host.state, s.host.noted with
    | .spaceWait, some n => .next ((State.bump .stallTimeouts (s.toPortWait false)).markDirty [n.block])
    | _, _ => .next s

/-- SYNC_HOLD_EXPIRY (R16): DONE, the alert, the counter, and the waiter cleared. -/
def execSyncHoldExpiry (s : State) : Result :=
  s.awake <|
    match s.host.state with
    | .syncHold => .next ((State.bump .syncTimeouts (s.clearWaiter.answer .doneWrite)).report .syncTimeout)
    | _ => .next s

end Sys2Proof.Machine
end

