-- ==== Sys2Proof/Machine/LinkTimers.lean ====
section
/-! DEFINITION. The commands of the link controller's and the sender's timers, and the end of a frame at the transmitter (chapters 4, 5). -/

namespace Sys2Proof.Machine

open Sys2Proof

/-- The training frame of the phase becomes due: START on a primary in the START phase, otherwise HELLO (R79). -/
def State.dueTraining (s : State) : State :=
  match s.role, s.link.phase with
  | .primary, .start _ => { s with link := { s.link with due := { s.link.due with start := true } } }
  | _, _ => { s with link := { s.link with due := { s.link.due with hello := true } } }

/-- REPEAT_TIMER_EXPIRY (R79): the training frame is due and the timer runs on with its next period. -/
def execRepeatTimerExpiry (s : State) : Result :=
  s.awake <| if s.link.repeatRun then .next s.dueTraining.kick else .next s

/-- KEEPALIVE_TIMER_EXPIRY (R79): an IDLE frame is due, and the timer stands until the next frame sent restarts it. -/
def execKeepaliveTimerExpiry (s : State) : Result :=
  s.awake <|
    if s.link.keepaliveRun then
      .next (State.kick { s with link := { s.link with due := { s.link.due with idle := true }, keepaliveRun := false } })
    else .next s

/-- SILENCE_TIMER_EXPIRY (R88): the link leaves UP for TRAINING and LINK_LOST is reported. -/
def execSilenceTimerExpiry (s : State) : Result :=
  s.awake <|
    match s.link.silence with
    | some _ => .next s.loseLink.finish
    | none => .next s

/-- RETRANSMIT_TIMER_EXPIRY (R109, R110): a rewind and one more retry; a restart, or a local halt past RETRY_LIMIT. -/
def execRetransmitTimerExpiry (s : State) : Result :=
  s.awake <|
    match s.sender.timer with
    | some _ =>
      let s' := { s.rewind with sender := { s.sender with retries := s.sender.retries + 1 } }
      if s'.sender.retries ≤ s.params.retryLimit then .next s'.startRetx.kick
      else .next (s'.localHalt .retryExhausted).finish
    | none => .next s

/-- TRANSMIT_FRAME_END (R73, R78, R79): the keepalive timer restarts while the link is UP, and the first due frame is begun, its contents
fixed; line fill separates it on the line from the frame that ended. -/
def execTransmitFrameEnd (s : State) : Result :=
  s.awake <|
    match s.link.tx with
    | some _ => .next (State.kick (State.lineFill { s with link := { s.link with tx := none, keepaliveRun := s.linkUp } }))
    | none => .next s

end Sys2Proof.Machine
end

