-- ==== Sys2Proof/Machine/Management.lean ====
section
/-! DEFINITION. The commands of the management port (chapters 7 to 9). -/

namespace Sys2Proof.Machine

open Sys2Proof

/-- What a taken command gives: its result code, its response after OK, and the state it leaves. -/
structure Reply where
  code     : ResultCode
  response : List Byte
  state    : State

/-- A refusal: no response, nothing changed (R155, R157). -/
def refuse (code : ResultCode) (s : State) : Reply := { code := code, response := [], state := s }

/-- An acceptance without a response. -/
def accept (s : State) : Reply := { code := .ok, response := [], state := s }

/-- An acceptance with a response. -/
def answerWith (response : List Byte) (s : State) : Reply := { code := .ok, response := response, state := s }

/-- The port can take a command: either no frame is in progress, and the command comes as a frame of its own; or the bytes kept in the
frame in progress are the command byte and the arguments of this command (R153; log entry 10). -/
def Mgmt.awaits (m : Mgmt) (code : Byte) (args : List Byte) : Bool :=
  match m.phase with
  | .deselected => true
  | .command => m.command == some code && m.args == args
  | .arguments => m.command == some code && m.args == args
  | _ => false

/-- The port after the taking of a command: the turnaround begins, with the result and the response fixed, and MDO still carries the last
bit of a byte 0xFF (R153, R155). -/
def Mgmt.taken (code : Byte) (args : List Byte) (result : ResultCode) (response : List Byte) : Mgmt :=
  { phase := .turnaround, command := some code, args := args, result := some result, response := response, bits := [], passed := 0,
    mdo := .high }

/-- The taking of a command at the arrival of its last byte (R153, R155). While an earlier command's frame has not ended, or the port
waits for MSEL to rise, the bytes have no effect (R153, R159). -/
def State.takeCommand (s : State) (code : Byte) (args : List Byte) (act : State → Reply) : Result :=
  s.awake <|
    if s.mgmt.awaits code args then
      let r := act s
      .next { r.state with mgmt := Mgmt.taken code args r.code r.response }
    else .next s

/-! ## STATUS, regions and parameters (R160 to R164) -/

/-- STATUS (R160). -/
def execStatus (s : State) : Result := s.takeCommand 0x01 [] fun s => answerWith s.statusBytes s

/-- The bytes of a region entry in a READ REGION response (Table 10.1). -/
def Region.bytes (r : Region) : List Byte :=
  [flagCode r.valid, r.mode.code, r.policy.code] ++ bytes16 r.pattern ++ bytes16 r.care

/-- READ REGION on its argument (R161). -/
def readRegionAct (index : Byte) (s : State) : Reply :=
  match s.regions[index.toNat]? with
  | some r => answerWith r.bytes s
  | none => refuse .badArg s

/-- READ REGION (R161). -/
def execReadRegion (index : Byte) (s : State) : Result := s.takeCommand 0x10 [index] (readRegionAct index)

/-- An entry replaced whole, the match pattern cleared where the care pattern is 0 (R162). -/
def State.putRegion (index : Nat) (valid : Bool) (mode : RegionMode) (policy : FullPolicy) (pattern care : BitVec 16)
    (s : State) : State :=
  let r : Region := { valid := valid, mode := mode, policy := policy, pattern := pattern &&& care, care := care }
  { s with regions := s.regions.setIfInBounds index r }

/-- WRITE REGION on its arguments (R162). -/
def writeRegionAct (index valid mode policy : Byte) (pattern care : BitVec 16) (s : State) : Reply :=
  if 15 < index.toNat then refuse .badArg s
  else match flagArg valid, regionMode mode, fullPolicy policy with
    | some v, some m, some p =>
      if s.role ≠ .standalone then refuse .badState s
      else accept (s.putRegion index.toNat v m p pattern care)
    | _, _, _ => refuse .badArg s

/-- WRITE REGION (R162). -/
def execWriteRegion (index valid mode policy : Byte) (pattern care : BitVec 16) (s : State) : Result :=
  s.takeCommand 0x11 ([index, valid, mode, policy] ++ bytes16 pattern ++ bytes16 care)
    (writeRegionAct index valid mode policy pattern care)

/-- READ PARAM on its argument (R163). -/
def readParamAct (ident : Byte) (s : State) : Reply :=
  match Param.ofId ident with
  | some p => answerWith (bytes32 (s.params.get p)) s
  | none => refuse .badArg s

/-- READ PARAM (R163). -/
def execReadParam (ident : Byte) (s : State) : Result := s.takeCommand 0x18 [ident] (readParamAct ident)

/-- R164, condition 4: the role or the link state a parameter's write calls for. -/
def State.paramWritable (s : State) (p : Param) : Bool :=
  match p with
  | .windowBase => s.role == .standalone
  | .pairId => s.role == .standalone
  | .windowSize => s.link.state != .up
  | _ => true

/-- What a stored value does in the command event: the water mark tests (R47) and the start of an idle sweep (R59). -/
def State.afterParam (p : Param) (v : BitVec 32) (s : State) : State :=
  match p with
  | .highWater => s.waterTest
  | .lowWater => s.waterTest
  | .autoRepair => if v = 1 then s.autoStart.derivePair else s
  | _ => s

/-- WRITE PARAM on its arguments, its conditions in order (R164). -/
def writeParamAct (ident : Byte) (value : BitVec 32) (s : State) : Reply :=
  match Param.ofId ident with
  | none => refuse .badArg s
  | some p =>
    if !p.inRange value then refuse .badArg s
    else if !p.related s.params value then refuse .badArg s
    else if !s.paramWritable p then refuse .badState s
    else accept (State.afterParam p value { s with params := s.params.put p value })

/-- WRITE PARAM (R164). -/
def execWriteParam (ident : Byte) (value : BitVec 32) (s : State) : Result :=
  s.takeCommand 0x19 (ident :: bytes32 value) (writeParamAct ident value)

/-! ## SET ROLE (R137 to R140) -/

/-- A Standalone part becomes Primary (R138). -/
def State.becomePrimary (s : State) : State :=
  (State.restartCounts { s with role := .primary }).fillMap.enterTraining.finish

/-- A Standalone part becomes Replica (R139). -/
def State.becomeReplica (s : State) : State :=
  (State.restartCounts { s with role := .replica }).enterTraining.finish

/-- The host port when the role leaves Primary (R24). -/
def HostPort.leavePrimary (h : HostPort) : HostPort :=
  match h.state with
  | .spaceWait => { h with state := .portWait, claim := false, timer := none }
  | .portWait => { h with claim := false }
  | .inMemory => { h with bound := false }
  | _ => h

/-- The memory port when the role leaves Primary: a sweep read in memory is abandoned at once (R21). -/
def MemPort.abandonSweep (m : MemPort) : MemPort :=
  match m.use with
  | some u => if u.owner = .sweep then { m with use := none } else m
  | none => m

/-- The link when the role leaves Primary: from UP a HALT is due and the departure is a session end; then OFF, with last session 0
(R93, R96). -/
def State.linkLeavePrimary (s : State) : State :=
  let s' := if s.linkUp then (s.dueHalt .roleChange).departUp .off else s.setLink .off
  { s' with link := { s'.link with lastSession := 0 } }

/-- A Primary part becomes Standalone (R140, R24, R50, R71, R113). -/
def State.leavePrimary (s : State) : State :=
  let s := s.linkLeavePrimary
  let s := { s with role := .standalone, host := s.host.leavePrimary,
                    mem := { s.mem.abandonSweep with sweepWait := 0, applyRun := 0 },
                    sweep := Sweep.powerOn, map := DirtyMap.clean, journal := Journal.powerOn }
  s.failMarkers.resetSender.finish

/-- Whether a host write that touches a mirrored block is in memory, held or abandoned by INIT (R137). -/
def State.hostWriteToMirrored (s : State) : Bool := s.hostUse.any fun t => !(s.touchedMirrored t).isEmpty

/-- Table 7.1, on a target in range. -/
def setRoleTo (target : Role) (s : State) : Reply :=
  match s.role, target with
  | .standalone, .standalone => accept s
  | .standalone, .primary => accept s.becomePrimary
  | .standalone, .replica => if s.hostWriteToMirrored then refuse .busy s else accept s.becomeReplica
  | .primary, .standalone => accept s.leavePrimary
  | .primary, .primary => accept s
  | .replica, .replica => accept s
  | _, _ => refuse .badState s

/-- SET ROLE on its argument (R137). -/
def setRoleAct (target : Byte) (s : State) : Reply :=
  match roleTarget target with
  | some r => setRoleTo r s
  | none => refuse .badArg s

/-- SET ROLE (R137). -/
def execSetRole (target : Byte) (s : State) : Result := s.takeCommand 0x20 [target] (setRoleAct target)

/-! ## START REPAIR and STOP REPAIR (R66, R67) -/

/-- START REPAIR accepted, by the sweep's state (R66). -/
def State.startSweep (s : State) : State :=
  let s' := { s with sweep := { s.sweep with timeouts := 0 } }
  match s.sweep.state with
  | .idle => s'.enterScanning
  | .stopped => s'.enterScanning
  | .copying => { s' with sweep := { s'.sweep with stopPending := false } }
  | _ => s'

/-- START REPAIR on the state (R66). -/
def startRepairAct (s : State) : Reply :=
  if s.role ≠ .primary then refuse .badState s
  else if !s.linkUp then refuse .badState s
  else accept s.startSweep.derivePair

/-- START REPAIR (R66). -/
def execStartRepair (s : State) : Result := s.takeCommand 0x21 [] startRepairAct

/-- STOP REPAIR accepted, by the sweep's state (R67). -/
def State.stopSweep (s : State) : State :=
  match s.sweep.state with
  | .idle => { s with sweep := { s.sweep with state := .stopped } }
  | .scanning => { s with sweep := { s.sweep with state := .stopped } }
  | .stopped => s
  | .waiting => (s.remarkCopy.endCopy .stopped).retestHost
  | .copying =>
    if s.sweep.request then (s.remarkCopy.withdrawRequest.endCopy .stopped).retestHost
    else { s with sweep := { s.sweep with stopPending := true } }

/-- STOP REPAIR on the state (R67). -/
def stopRepairAct (s : State) : Reply :=
  if s.role ≠ .primary then refuse .badState s else accept s.stopSweep.derivePair

/-- STOP REPAIR (R67). -/
def execStopRepair (s : State) : Result := s.takeCommand 0x22 [] stopRepairAct

/-! ## Markers (R146, R150) -/

/-- A marker placed: its record at the journal's tail and its tag at the end of the outstanding list; the lower free-slot count reaches
the sweep, the occupancy is tested, and the marker may be sent at once (R40, R146). -/
def State.placeMarker (tag : Tag) (s : State) : State :=
  let s' := s.appendRecord (markerRecord tag)
  (State.sweepFall { s' with pair := { s'.pair with outstanding := s'.pair.outstanding ++ [tag] } }).waterTest.kick

/-- PLACE MARKER on its argument, its conditions in order (R146). -/
def placeMarkerAct (tag : Tag) (s : State) : Reply :=
  if s.role ≠ .primary then refuse .badState s
  else if s.pair.state ≠ .mirrored then refuse .badState s
  else if Config.markerSlots ≤ s.pair.outstanding.length then refuse .busy s
  else if s.freeSlots < 1 then refuse .busy s
  else accept (s.placeMarker tag)

/-- PLACE MARKER (R146). -/
def execPlaceMarker (tag : Tag) (s : State) : Result := s.takeCommand 0x23 (bytes16 tag) (placeMarkerAct tag)

/-- The READ MARKERS response (R150, section 10.1). -/
def PairControl.markerBytes (p : PairControl) : List Byte :=
  BitVec.ofNat 8 p.outstanding.length :: (p.outstanding.flatMap bytes16 ++
    BitVec.ofNat 8 p.results.length :: p.results.flatMap fun r => bytes16 r.tag ++ [r.outcome.code])

/-- READ MARKERS on the state: both lists returned, the results list emptied (R150). -/
def readMarkersAct (s : State) : Reply :=
  answerWith s.pair.markerBytes { s with pair := { s.pair with results := [] } }

/-- READ MARKERS (R150). -/
def execReadMarkers (s : State) : Result := s.takeCommand 0x24 [] readMarkersAct

/-! ## RELINK, PROMOTE and CLEAR FAULT (R95, R132, R129) -/

/-- RELINK on the state (R95). -/
def relinkAct (s : State) : Reply :=
  if s.link.state = .halted then accept s.enterTraining.finish else refuse .badState s

/-- RELINK (R95). -/
def execRelink (s : State) : Result := s.takeCommand 0x28 [] relinkAct

/-- A promotion begun (R132, R96). -/
def State.beginPromotion (s : State) : State :=
  let s := { s with role := .promoting }
  let s := if s.linkUp then (s.dueHalt .promoted).setLink .off else s.setLink .off
  let s := { s with link := { s.link with continuity := false } }
  let s := if s.apply.state = .fault then s.discardQueue else s
  s.endPromotion.finish

/-- PROMOTE on the state (R132). -/
def promoteAct (s : State) : Reply := if s.role = .replica then accept s.beginPromotion else refuse .badState s

/-- PROMOTE (R132). -/
def execPromote (s : State) : Result := s.takeCommand 0x29 [] promoteAct

/-- CLEAR FAULT on the state (R129). -/
def clearFaultAct (s : State) : Reply := if s.apply.state = .fault then accept s.discardQueue else refuse .badState s

/-- CLEAR FAULT (R129). -/
def execClearFault (s : State) : Result := s.takeCommand 0x2A [] clearFaultAct

/-! ## Alerts and counters (R166, R167, R172 to R174) -/

/-- READ ALERTS on the state (R172). -/
def readAlertsAct (s : State) : Reply :=
  answerWith (BitVec.ofNat 8 s.alert.raisedCount :: s.alert.raisedBytes)
    { s with alert := AlertUnit.settle { s.alert with causes := s.alert.causes.map Cause.afterRead } }

/-- READ ALERTS (R172). -/
def execReadAlerts (s : State) : Result := s.takeCommand 0x30 [] readAlertsAct

/-- The causes a mask names acknowledged (R173). -/
def AlertUnit.acknowledge (mask : BitVec 16) (a : AlertUnit) : AlertUnit :=
  AlertUnit.settle
    { a with causes := Vector.ofFn fun i : Fin 15 => if mask.getLsbD i.val then a.causes[i].acknowledge else a.causes[i] }

/-- ACK ALERTS on its mask; bit 15 names no cause (R167, R173). -/
def ackAlertsAct (mask : BitVec 16) (s : State) : Reply :=
  if mask.getLsbD 15 then refuse .badArg s else accept { s with alert := s.alert.acknowledge mask }

/-- ACK ALERTS (R173). -/
def execAckAlerts (mask : BitVec 16) (s : State) : Result := s.takeCommand 0x31 (bytes16 mask) (ackAlertsAct mask)

/-- SET ALERT ENABLES on its mask (R174). -/
def setAlertEnablesAct (mask : BitVec 16) (s : State) : Reply :=
  if mask.getLsbD 15 then refuse .badArg s
  else accept { s with alert := AlertUnit.settle { s.alert with enables := mask.setWidth 15 } }

/-- SET ALERT ENABLES (R174). -/
def execSetAlertEnables (mask : BitVec 16) (s : State) : Result :=
  s.takeCommand 0x32 (bytes16 mask) (setAlertEnablesAct mask)

/-- Whether READ COUNTERS's arguments select counters that exist, with a clear option of 0 or 1 (R166). -/
def countersInRange (first number clear : Byte) : Bool :=
  first.toNat ≤ 11 && 1 ≤ number.toNat && number.toNat ≤ 12 && first.toNat + number.toNat ≤ 12 && clear.toNat ≤ 1

/-- The selected counters set to 0 (R166). -/
def Counters.cleared (first number : Nat) (cs : Counters) : Counters :=
  Vector.ofFn fun i : Fin 12 => if first ≤ i.val ∧ i.val < first + number then 0 else cs[i]

/-- READ COUNTERS on its arguments (R166). -/
def readCountersAct (first number clear : Byte) (s : State) : Reply :=
  if !countersInRange first number clear then refuse .badArg s
  else
    answerWith (number :: ((s.counters.toList.drop first.toNat).take number.toNat).flatMap bytes32)
      (if clear = 1 then { s with counters := Counters.cleared first.toNat number.toNat s.counters } else s)

/-- READ COUNTERS (R166). -/
def execReadCounters (first number clear : Byte) (s : State) : Result :=
  s.takeCommand 0x38 [first, number, clear] (readCountersAct first number clear)

/-! ## RESET PART, unknown commands and the ends of a frame (R154, R156, R168) -/

/-- RESET PART (R168). -/
def execResetPart (s : State) : Result := s.takeCommand 0x3F [] fun s => accept s.softReset

/-- UNKNOWN_COMMAND (R156). A byte that names a command is no such event (log entry 5). -/
def execUnknownCommand (code : Byte) (s : State) : Result :=
  match commandArgs code with
  | some _ => .next s
  | none => s.takeCommand code [] (refuse .unknown)

/-- SHORT_FRAME (R154): MSEL rises before a command is taken; the frame's bytes are discarded and the port returns to DESELECTED. It also
ends the wait of R159, whose bytes are ignored. Where a command has been taken in the frame it is no such event (log entry 5). -/
def execShortFrame (_bytes : List Byte) (s : State) : Result :=
  s.awake <|
    match s.mgmt.phase with
    | .deselected => .next s
    | .waitingForRise => .next { s with mgmt := Mgmt.deselected }
    | .command => .next { s with mgmt := Mgmt.deselected }
    | .arguments => .next { s with mgmt := Mgmt.deselected }
    | _ => .next s

/-- FRAME_END (R154): MSEL rises after the command was taken; the bytes not clocked out are lost. -/
def execFrameEnd (s : State) : Result :=
  s.awake <|
    match s.mgmt.phase with
    | .deselected => .next s
    | .command => .next s
    | .arguments => .next s
    | _ => .next { s with mgmt := Mgmt.deselected }

end Sys2Proof.Machine
end

