-- ==== Sys2Proof/Machine/Resets.lean ====
section
/-! DEFINITION. The power-on reset and its release (R26, R159, R182). -/

namespace Sys2Proof.Machine

open Sys2Proof

/-- POWER_ON_RESET (R26, R182). A pulse on RESET shorter than 1 µs resets the part in whole or not at all: a free value says which. -/
def execPowerOnReset (cause : ResetCause) (s : State) : Result :=
  match cause with
  | .powerUp => .next s.powerOnReset
  | .resetPin lowNs =>
    if Config.resetPulseNs ≤ lowNs then .next s.powerOnReset
    else
      let s' := { s with freeIndex := s.freeIndex + 1 }
      if Config.shortPulseResets s.freeIndex then .next s'.powerOnReset else .next s'

/-- RESET_RELEASE (R182): the part leaves power-on reset. With MSEL low the management port waits for it to rise (R159). -/
def execResetRelease (mselLow : Bool) (s : State) : Result :=
  if s.inReset then
    .next { s with inReset := false,
                   mgmt := if mselLow then { Mgmt.deselected with phase := .waitingForRise } else Mgmt.deselected }
  else .next s

end Sys2Proof.Machine
end

