-- ==== Sys2Proof/Machine/SweepEvents.lean ====
section
/-! DEFINITION. The commands of the repair sweep: selection, grant and the ends of its line reads (chapter 3). -/

namespace Sys2Proof.Machine

open Sys2Proof

/-- The reserve test before a line read: a request placed while the free-slot count exceeds JOURNAL_RESERVE, otherwise WAITING
(R60, R61). -/
def State.reserveTest (s : State) : State :=
  if s.params.journalReserve < s.freeSlots then { s with sweep := { s.sweep with state := .copying, request := true } }
  else { s with sweep := { s.sweep with state := .waiting, request := false } }

/-- The first set flag counting from the cursor upward and then from block 0 (R60). -/
def DirtyMap.nextDirty (m : DirtyMap) : Option Block :=
  match m.flags.find? fun b => m.cursor.toNat ≤ b.toNat with
  | some b => some b
  | none => m.flags.head?

/-- The selection of a block: flag cleared, block in copy at line 0, cursor just past it, reserve test (R53, R60). -/
def State.select (b : Block) (s : State) : State :=
  State.reserveTest
    { s with map := { s.map.clear b with cursor := b + 1 },
             sweep := { s.sweep with copy := some { block := b, line := 0 } } }

/-- SELECTION (R60). The host port re-tests a waiting write and the pair state is derived from what the event leaves (R56). -/
def execSelection (s : State) : Result :=
  s.awake <|
    if s.sweep.state = .scanning then
      match s.map.nextDirty with
      | some b => .next (s.select b).retestHost.finish
      | none => .next s
    else .next s

/-- Whether a grant is made to the sweep (R18, R19). -/
def State.sweepGrantable (s : State) : Bool :=
  s.role == .primary && s.sweep.request && s.mem.use.isNone &&
    (s.host.state != .portWait || s.params.sweepShare ≤ s.mem.sweepWait)

/-- The sweep's grant: the line read begins at memory and its placeholder joins the journal (R37, R62). -/
def State.beginSweepRead (c : Copy) (s : State) : State :=
  let s' := s.startMemory .sweep { addr := lineAddr s.params.windowBase c.lineIndex, access := .readLine }
  State.waterTest <| State.appendRecord (placeholder c.lineIndex)
    { s' with sweep := { s'.sweep with request := false, read := some { line := c.lineIndex, current := true } },
              mem := { s'.mem with sweepWait := 0 } }

/-- SWEEP_GRANT (R62). -/
def execSweepGrant (s : State) : Result :=
  s.awake <|
    match s.sweep.copy with
    | some c => if s.sweepGrantable then .next (s.beginSweepRead c) else .next s
    | none => .next s

/-- Whether the transaction in memory is a sweep read that belongs (`current`) or no longer belongs to the copy (R57, R70). -/
def State.sweepReadInMemory (s : State) (current : Bool) : Bool :=
  (s.mem.use.any fun u => u.owner == .sweep) && s.sweep.read.any fun r => r.current == current

/-- The sweep read has left the memory port. -/
def State.endSweepRead (s : State) : State :=
  { s with mem := { s.mem with use := none }, sweep := { s.sweep with read := none } }

/-- After a completed read with no stop pending: the next line, or the end of the block's copy after line 63 (R63). -/
def State.advanceCopy (c : Copy) (s : State) : State :=
  if c.line = 63 then
    State.enterScanning ((State.bump .sweepBlocksCopied s).endCopy .scanning)
  else State.reserveTest { s with sweep := { s.sweep with copy := some { c with line := c.line + 1 } } }

/-- The block in copy given back to the map, and the sweep STOPPED (R67, R68). -/
def State.stopCopy (s : State) : State := s.remarkCopy.endCopy .stopped

/-- SWEEP_READ_COMPLETION (R63, R68). -/
def execSweepReadCompletion (data : LineBytes) (s : State) : Result :=
  s.awake <|
    match s.sweep.copy with
    | some c =>
      if s.sweepReadInMemory true then
        let s' := s.endSweepRead.fillPlaceholder data
        let s' := { s' with sweep := { s'.sweep with timeouts := 0 } }
        let s' := if s.sweep.stopPending then s'.stopCopy else s'.advanceCopy c
        .next s'.retestHost.finish
      else .next s
    | none => .next s

/-- The sweep after a read timeout: the count up by 1, SWEEP_FAULT and STOPPED at the fourth, STOPPED with a stop pending, otherwise
SCANNING (R65). -/
def State.afterReadTimeout (stopPending : Bool) (s : State) : State :=
  let s' := { s with sweep := { s.sweep with timeouts := s.sweep.timeouts + 1 } }
  if Config.sweepFaultCount ≤ s'.sweep.timeouts then (s'.endCopy .stopped).report .sweepFault
  else if stopPending then s'.endCopy .stopped
  else (s'.endCopy .scanning).enterScanning

/-- SWEEP_READ_TIMEOUT (R65): the placeholder withdrawn, the block re-marked, the timeout counted. -/
def execSweepReadTimeout (s : State) : Result :=
  s.awake <|
    if s.sweepReadInMemory true then
      let s' := s.endSweepRead.withdrawPlaceholder.remarkCopy.afterReadTimeout s.sweep.stopPending
      .next s'.announceRise.waterTest.finish
    else .next s

/-- ORPHANED_READ_COMPLETION (R70): the port is freed and the bytes are discarded. -/
def execOrphanedReadCompletion (_data : LineBytes) (s : State) : Result :=
  s.awake <| if s.sweepReadInMemory false then .next s.endSweepRead else .next s

/-- ORPHANED_READ_TIMEOUT (R70): the port is freed and the report is discarded. -/
def execOrphanedReadTimeout (s : State) : Result :=
  s.awake <| if s.sweepReadInMemory false then .next s.endSweepRead else .next s

end Sys2Proof.Machine
end

