-- ==== Sys2Proof/Machine/Dispatch.lean ====
section
/-! DEFINITION. The meaning of every command: one arm for each constructor of Instr. -/

namespace Sys2Proof.Machine

open Sys2Proof

def exec (i : Instr) (s : State) : Host.Outcome State Fault Refusal :=
  match i with
  | .arrival txn => Sys2Proof.Machine.execArrival txn s
  | .init => Sys2Proof.Machine.execInit s
  | .hostGrant => Sys2Proof.Machine.execHostGrant s
  | .sweepGrant => Sys2Proof.Machine.execSweepGrant s
  | .applyGrant => Sys2Proof.Machine.execApplyGrant s
  | .hostMemoryCompletion data => Sys2Proof.Machine.execHostMemoryCompletion data s
  | .hostMemoryTimeout => Sys2Proof.Machine.execHostMemoryTimeout s
  | .sweepReadCompletion data => Sys2Proof.Machine.execSweepReadCompletion data s
  | .sweepReadTimeout => Sys2Proof.Machine.execSweepReadTimeout s
  | .orphanedReadCompletion data => Sys2Proof.Machine.execOrphanedReadCompletion data s
  | .orphanedReadTimeout => Sys2Proof.Machine.execOrphanedReadTimeout s
  | .abandonedTransactionAnswer data => Sys2Proof.Machine.execAbandonedTransactionAnswer data s
  | .applyCompletion => Sys2Proof.Machine.execApplyCompletion s
  | .applyTimeout => Sys2Proof.Machine.execApplyTimeout s
  | .spaceWaitExpiry => Sys2Proof.Machine.execSpaceWaitExpiry s
  | .syncHoldExpiry => Sys2Proof.Machine.execSyncHoldExpiry s
  | .selection => Sys2Proof.Machine.execSelection s
  | .repeatTimerExpiry => Sys2Proof.Machine.execRepeatTimerExpiry s
  | .keepaliveTimerExpiry => Sys2Proof.Machine.execKeepaliveTimerExpiry s
  | .silenceTimerExpiry => Sys2Proof.Machine.execSilenceTimerExpiry s
  | .retransmitTimerExpiry => Sys2Proof.Machine.execRetransmitTimerExpiry s
  | .transmitFrameEnd => Sys2Proof.Machine.execTransmitFrameEnd s
  | .receiveHello bytes => Sys2Proof.Machine.execReceiveHello bytes s
  | .receiveStart bytes => Sys2Proof.Machine.execReceiveStart bytes s
  | .receiveReady bytes => Sys2Proof.Machine.execReceiveReady bytes s
  | .receiveData bytes => Sys2Proof.Machine.execReceiveData bytes s
  | .receiveAck bytes => Sys2Proof.Machine.execReceiveAck bytes s
  | .receiveNak bytes => Sys2Proof.Machine.execReceiveNak bytes s
  | .receiveIdle bytes => Sys2Proof.Machine.execReceiveIdle bytes s
  | .receiveHalt bytes => Sys2Proof.Machine.execReceiveHalt bytes s
  | .truncatedFrame bytes symbol => Sys2Proof.Machine.execTruncatedFrame bytes symbol s
  | .status => Sys2Proof.Machine.execStatus s
  | .readRegion index => Sys2Proof.Machine.execReadRegion index s
  | .writeRegion index valid mode policy pattern care => Sys2Proof.Machine.execWriteRegion index valid mode policy pattern care s
  | .readParam ident => Sys2Proof.Machine.execReadParam ident s
  | .writeParam ident value => Sys2Proof.Machine.execWriteParam ident value s
  | .setRole target => Sys2Proof.Machine.execSetRole target s
  | .startRepair => Sys2Proof.Machine.execStartRepair s
  | .stopRepair => Sys2Proof.Machine.execStopRepair s
  | .placeMarker tag => Sys2Proof.Machine.execPlaceMarker tag s
  | .readMarkers => Sys2Proof.Machine.execReadMarkers s
  | .relink => Sys2Proof.Machine.execRelink s
  | .promote => Sys2Proof.Machine.execPromote s
  | .clearFault => Sys2Proof.Machine.execClearFault s
  | .readAlerts => Sys2Proof.Machine.execReadAlerts s
  | .ackAlerts mask => Sys2Proof.Machine.execAckAlerts mask s
  | .setAlertEnables mask => Sys2Proof.Machine.execSetAlertEnables mask s
  | .readCounters first number clear => Sys2Proof.Machine.execReadCounters first number clear s
  | .resetPart => Sys2Proof.Machine.execResetPart s
  | .unknownCommand code => Sys2Proof.Machine.execUnknownCommand code s
  | .shortFrame bytes => Sys2Proof.Machine.execShortFrame bytes s
  | .powerOnReset cause => Sys2Proof.Machine.execPowerOnReset cause s
  | .frameEnd => Sys2Proof.Machine.execFrameEnd s
  | .resetRelease mselLow => Sys2Proof.Machine.execResetRelease mselLow s

end Sys2Proof.Machine
end

