-- ==== Sys2Proof/Machine/Lines.lean ====
section
/-! DEFINITION. What the lines of the management port and of the pair link do to the part, edge by edge and symbol by symbol, and the
commands they bring (R152 to R156, R180). -/

namespace Sys2Proof.Machine

open Sys2Proof

/-! ## The management port's lines (R152, R153, R154) -/

/-- The frame that a fall of MSEL begins: MDO holds the first bit of a byte 0xFF (R152). -/
def Mgmt.selected : Mgmt := { Mgmt.deselected with phase := .command, mdo := .high }

/-- A byte from its bits, the first one the most significant (R152). -/
def byteOfBits (bits : List Bool) : Byte := bits.foldl (fun b v => b <<< 1 ||| (if v then 1 else 0)) 0

/-- The level of MDO at the bit that follows the bits sampled: the byte shifted out, most significant bit first; not driven where there is
no byte out (R152). -/
def Mgmt.level (m : Mgmt) : PinLevel :=
  match m.byteOut with
  | none => .undriven
  | some b => if b.getMsbD m.bits.length then .high else .low

/-- A byte crosses after the command was taken: two turnaround bytes, the result, the response, then the fill (R153, Table 8.1). -/
def Mgmt.bytePassed (m : Mgmt) : Mgmt :=
  match m.phase with
  | .turnaround =>
    if m.passed + 1 < 2 then { m with passed := m.passed + 1, bits := [] } else { m with phase := .result, passed := 0, bits := [] }
  | .result => { m with phase := if m.response.isEmpty then .fill else .response, passed := 0, bits := [] }
  | .response =>
    if m.passed + 1 < m.response.length then { m with passed := m.passed + 1, bits := [] }
    else { m with phase := .fill, passed := 0, bits := [] }
  | _ => { m with bits := [] }

/-- The command that the kept bytes spell is taken (R153, R156). -/
def State.takeKept (s : State) : Result :=
  match s.mgmt.command with
  | none => .next s
  | some code =>
    match managementCommand code s.mgmt.args with
    | some c => exec c s
    | none => .next s

/-- A byte arrives (R153): the command byte, an argument byte, or a byte that has no effect. -/
def State.byteArrives (b : Byte) (s : State) : Result :=
  match s.mgmt.phase with
  | .command =>
    let m := { s.mgmt with command := some b, args := [], bits := [] }
    match commandArgs b with
    | some (_ + 1) => .next { s with mgmt := { m with phase := .arguments } }
    | _ => State.takeKept { s with mgmt := m }
  | .arguments =>
    let s' := { s with mgmt := { s.mgmt with args := s.mgmt.args ++ [b], bits := [] } }
    if s'.mgmt.args.length < ((s.mgmt.command.bind commandArgs).getD 0) then .next s' else s'.takeKept
  | _ => .next { s with mgmt := s.mgmt.bytePassed }

/-- A frame is in progress: MSEL is low and the port does not wait for it to rise (R152, R159). -/
def Mgmt.inFrame (m : Mgmt) : Bool := m.phase != .deselected && m.phase != .waitingForRise

/-- MSEL falls: a frame begins (R152). -/
def State.mselFall (s : State) : Result :=
  s.awake <| if s.mgmt.phase = .deselected then .next { s with mgmt := Mgmt.selected } else .next s

/-- MSEL rises: the frame ends, short or after the taking of its command, and the wait of R159 ends (R154). -/
def State.mselRise (s : State) : Result :=
  match s.mgmt.phase with
  | .deselected => .next s
  | .waitingForRise => execShortFrame [] s
  | .command => execShortFrame (s.mgmt.command.toList ++ s.mgmt.args) s
  | .arguments => execShortFrame (s.mgmt.command.toList ++ s.mgmt.args) s
  | _ => execFrameEnd s

/-- MCLK rises: MDI is sampled, and the eighth bit makes a byte arrive. Outside a frame MCLK and MDI are ignored (R152, R159). -/
def State.mclkRise (mdi : Bool) (s : State) : Result :=
  s.awake <|
    if s.mgmt.inFrame then
      if s.mgmt.bits.length < 7 then .next { s with mgmt := { s.mgmt with bits := s.mgmt.bits ++ [mdi] } }
      else s.byteArrives (byteOfBits (s.mgmt.bits ++ [mdi]))
    else .next s

/-- MCLK falls: MDO changes to the next bit (R152). -/
def State.mclkFall (s : State) : Result :=
  s.awake <| if s.mgmt.inFrame then .next { s with mgmt := { s.mgmt with mdo := s.mgmt.level } } else .next s

/-! ## The pair link's line (R180) -/

/-- The command of a frame whose bytes have been gathered, by its type byte; bytes that name no type fail their check in whichever
receive command takes them (R75, R180; log entry 15). -/
def receiveCommand (bytes : List Byte) : Instr :=
  match bytes.head?.bind FrameType.ofCode with
  | some .hello => .receiveHello bytes
  | some .start => .receiveStart bytes
  | some .ready => .receiveReady bytes
  | some .data => .receiveData bytes
  | some .ack => .receiveAck bytes
  | some .nak => .receiveNak bytes
  | some .halt => .receiveHalt bytes
  | _ => .receiveIdle bytes

/-- What a received symbol does: the bytes gathered after it, and the command it brings. Outside a frame only START-OF-FRAME counts; in a
frame a data symbol is gathered, END-OF-FRAME takes the frame, and FILL, START-OF-FRAME or an invalid symbol truncates it, START-OF-FRAME
beginning the next one (R180). -/
def gather (gathered : Option (List Byte)) (y : Option LineSymbol) : Option (List Byte) × Option Instr :=
  match gathered, y with
  | none, some .startOfFrame => (some [], none)
  | none, _ => (none, none)
  | some bytes, some (.data b) => (some (bytes ++ [b]), none)
  | some bytes, some .endOfFrame => (none, some (receiveCommand bytes))
  | some bytes, some .fill => (none, some (.truncatedFrame bytes .fill))
  | some bytes, some .startOfFrame => (some [], some (.truncatedFrame bytes .startOfFrame))
  | some bytes, none => (none, some (.truncatedFrame bytes .invalidSymbol))

/-- A symbol arrives: it is read by the receiver's running disparity, which moves on by the symbol's bits, and gathered (R180). -/
def State.symbolIn (code : LineCode) (s : State) : Result :=
  s.awake <|
    let g := gather s.wire.gathered (decodeSymbol s.wire.rxDisparity code)
    let s' := { s with wire := { s.wire with rxDisparity := disparityAfterCode s.wire.rxDisparity code, gathered := g.1 } }
    match g.2 with
    | some c => exec c s'
    | none => .next s'

/-- A symbol time of the transmitter ends: the symbol it was sending has crossed, a FILL or one of the frame, and after END-OF-FRAME the
frame has ended (R73, R78, R180). FILL is sent in power-on reset too (R182). -/
def State.symbolOut (s : State) : Result :=
  let w := { s.wire with txDisparity := disparityAfterCode s.wire.txDisparity s.lineOut }
  match s.frameOnLine with
  | none => .next { s with wire := { w with fillDue := s.wire.fillDue - 1 } }
  | some f =>
    if s.wire.sent + 1 < f.symbols.length then .next { s with wire := { w with sent := s.wire.sent + 1 } }
    else execTransmitFrameEnd { s with wire := w }

/-- What an event on the lines does. -/
def State.lineEvent (e : LineEvent) (s : State) : Result :=
  match e with
  | .mselFall => s.mselFall
  | .mselRise => s.mselRise
  | .mclkRise mdi => s.mclkRise mdi
  | .mclkFall => s.mclkFall
  | .symbolIn code => s.symbolIn code
  | .symbolOut => s.symbolOut

end Sys2Proof.Machine
end

