-- ==== Sys2Proof/Safety.lean ====
section
/-! DEFINITION. The terms the statements use: the moments at which a command acts, the reply of the management port, and the laws that the
data book states of the part's state and that every step keeps. -/

namespace Sys2Proof.Machine

open Sys2Proof

/-! ## Moments -/

/-- The part runs: it is not held in power-on reset (R182). -/
abbrev State.Runs (s : State) : Prop := s.inReset = false

/-- A management command is taken: the part runs, and either no frame is in progress and the command comes as a frame of its own, or the
bytes kept in the frame in progress are its command byte and arguments (R153). -/
abbrev State.Takes (s : State) (code : Byte) (args : List Byte) : Prop := s.inReset = false ∧ s.mgmt.awaits code args = true

/-- The state with a taken command's result and response fixed at the management port (R155). -/
def State.replied (s : State) (code : Byte) (args : List Byte) (result : ResultCode) (response : List Byte) : State :=
  { s with mgmt := { phase := .turnaround, command := some code, args := args, result := some result, response := response,
                     bits := [], passed := 0, mdo := .high } }

/-! ## Looking at the state -/

/-- The sweep read of the current copy is in memory (Table 3.3). -/
abbrev Sweep.reading (w : Sweep) : Bool := w.read.any fun r => r.current

/-- The transaction in memory belongs to a given owner (R18). -/
abbrev MemPort.ownedBy (m : MemPort) (o : PortOwner) : Bool := m.use.any fun u => u.owner == o

/-- The tag of a MARKER record. -/
def Record.tag? (r : Record) : Option Tag :=
  match r.body with
  | .marker t => some t
  | _ => none

/-- The SENT and RESEND records at the head of the journal (R33). -/
def Journal.front (j : Journal) : List Record := j.records.takeWhile Record.isOutstanding

/-- The records behind them. -/
def Journal.back (j : Journal) : List Record := j.records.dropWhile Record.isOutstanding

/-- The numbers n, n + 1, … of a run of a given length, modulo 256. -/
def seqRun (n : SeqNo) : Nat → List SeqNo
  | 0 => []
  | k + 1 => n :: seqRun (n + 1) k

/-! ## The laws -/

/-- R170, R175: the line is asserted exactly while some enabled cause is RAISED, and a cause is CLEAR exactly while its count is 0. -/
abbrev AlertLaw (s : State) : Prop :=
  s.alert.line = s.alert.anyEnabledRaised ∧
  ∀ i : Fin 15, s.alert.causes[i].state = .clear ↔ s.alert.causes[i].count = 0

/-- R142: the pair state is the one Table 7.2 gives; and a request of the sweep stands only in COPYING (Table 3.3). -/
abbrev PairLaw (s : State) : Prop :=
  s.pair.state = s.derivedPair ∧ (s.sweep.request = true → s.sweep.state = .copying)

/-- Tables 3.2 and 3.3, R60, R65, R69: which of the sweep's context is present in which state. -/
abbrev SweepLaw (s : State) : Prop :=
  (s.sweep.copy.isSome = true ↔ s.sweep.state = .copying ∨ s.sweep.state = .waiting) ∧
  (s.sweep.request = true → s.sweep.state = .copying) ∧
  (s.sweep.reading = true → s.sweep.state = .copying) ∧
  (s.sweep.state = .copying → s.sweep.request = !s.sweep.reading) ∧
  (s.sweep.stopPending = true → s.sweep.reading = true) ∧
  (s.sweep.state = .scanning → 1 ≤ s.map.count) ∧
  (s.sweep.timeouts < 4 ∨ s.sweep.timeouts = 4 ∧ s.sweep.state = .stopped) ∧
  (s.sweep.read.isSome = s.mem.ownedBy .sweep) ∧
  (s.role ≠ .primary ∨ s.link.state ≠ .up → s.sweep.state = .idle ∨ s.sweep.state = .stopped)

/-- R51: the count is the number of set flags, every flag set is of a mirrored block, and no flag is set outside role Primary. Beside
it what the law rests on (R28, R3): every block a set request can name is mirrored, and the window base is a multiple of 256 MiB. -/
abbrev MapLaw (s : State) : Prop :=
  s.map.count = s.map.flags.length ∧
  s.map.flags.Pairwise (fun a b => a.toNat < b.toNat) ∧
  (∀ b ∈ s.map.flags, isMirrored s.regions b = true) ∧
  (s.role ≠ .primary → s.map.flags = [] ∧ s.journal.records = [] ∧ s.sweep.copy = none) ∧
  (∀ b ∈ s.journal.records.filterMap Record.block?, isMirrored s.regions b = true) ∧
  (∀ c ∈ s.sweep.copy, isMirrored s.regions c.block = true) ∧
  (s.host.state = .spaceWait → s.role = .primary ∧ ∀ n ∈ s.host.noted, isMirrored s.regions n.block = true) ∧
  s.params.windowBase.extractLsb' 0 28 = 0

/-- R8, the law of fencing: in roles Replica and Replica-promoting no host transaction in memory touches a mirrored block. -/
abbrev FenceLaw (s : State) : Prop :=
  s.role = .replica ∨ s.role = .promoting → ∀ t ∈ s.hostUse, s.touchedMirrored t = []

/-- R31, R32: records and claim never exceed 256; and the margin that R37 relies on, nine free slots while a sweep request stands, since
JOURNAL_RESERVE is at least 8. -/
abbrev CapacityLaw (s : State) : Prop :=
  s.journal.records.length + (if s.host.claim then 1 else 0) ≤ 256 ∧
  (s.sweep.request = true → 9 ≤ s.freeSlots) ∧
  8 ≤ s.params.journalReserve

/-- R145, R149: the outstanding list holds the tags of the MARKER records in journal order, 8 at most; the results list holds 8 at most.
A MARKER record is never FILLING (R29). -/
abbrev MarkerLaw (s : State) : Prop :=
  s.pair.outstanding = s.journal.records.filterMap Record.tag? ∧
  s.pair.outstanding.length ≤ 8 ∧
  s.pair.results.length ≤ 8 ∧
  ∀ r ∈ s.journal.records, r.state = .filling → r.tag? = none

/-- R31, R33, R45, R98: the SENT and RESEND records form the head of the journal, number at most WINDOW_SIZE, and carry the numbers that
run up to the next number; the others carry none; and the journal holds records only on a primary whose link is UP. -/
abbrev JournalLaw (s : State) : Prop :=
  s.journal.front.map Record.seq =
    (seqRun (s.sender.next - BitVec.ofNat 8 s.journal.front.length) s.journal.front.length).map some ∧
  (∀ r ∈ s.journal.back, r.isOutstanding = false ∧ r.seq = none) ∧
  s.journal.front.length ≤ s.params.windowSize ∧ s.params.windowSize ≤ 32 ∧
  (s.role ≠ .primary ∨ s.link.state ≠ .up → s.journal.records = [])

/-- A LINE record (Table 2.1). -/
def Record.isLine (r : Record) : Bool :=
  match r.body with
  | .line _ _ _ => true
  | _ => false

/-- R30, R15: at most one record has its sync waiter set, and one has it exactly while the host port holds a bound write, which is
IN_MEMORY or in SYNC_HOLD. No FILLING record has it set, and only a LINE record can (Table 2.1). -/
abbrev BindingLaw (s : State) : Prop :=
  s.journal.records.countP (fun r => r.waiter) = (if s.host.bound then 1 else 0) ∧
  (s.host.bound = true → s.host.state = .inMemory ∨ s.host.state = .syncHold) ∧
  (s.host.state = .syncHold → s.host.bound = true) ∧
  (∀ r ∈ s.journal.records, r.state = .filling → r.waiter = false) ∧
  ∀ r ∈ s.journal.records, r.waiter = true → r.isLine = true

/-- Table 1.4, R9: what the host port holds in each of its states. -/
abbrev HostLaw (s : State) : Prop :=
  (s.host.state = .idle ↔ s.host.txn = none) ∧
  (s.host.claim = true → s.host.state = .portWait) ∧
  (s.host.timer.isSome = true ↔ s.host.state = .spaceWait ∨ s.host.state = .syncHold) ∧
  (s.host.state = .inMemory ↔ s.mem.ownedBy .host = true)

/-- R76, R79, R88: the link is OFF exactly in roles Standalone and Replica-promoting, the repeat timer runs exactly in TRAINING, the
silence timer exactly in UP, and the keepalive timer only in UP. -/
abbrev LinkLaw (s : State) : Prop :=
  (s.link.state = .off ↔ s.role = .standalone ∨ s.role = .promoting) ∧
  (s.link.repeatRun = true ↔ s.link.state = .training) ∧
  (s.link.silence.isSome = true ↔ s.link.state = .up) ∧
  (s.link.keepaliveRun = true → s.link.state = .up)

/-- R78: a free transmitter leaves nothing due. -/
abbrev TransmitterLaw (s : State) : Prop :=
  s.link.tx = none → s.link.due = Due.nothing ∧ s.dataFrame.isNone = true

/-- R115, R121, R123, R134: the apply queue holds at most 32 records, whose numbers run up to the expected number; the engine is APPLYING
with a transaction left exactly where its state says so, an IDLE engine leaves no record, and only a replica holds any. -/
abbrev ReplicaLaw (s : State) : Prop :=
  s.receiver.queue.map QueueRecord.seq =
    seqRun (s.receiver.expected - BitVec.ofNat 8 s.receiver.queue.length) s.receiver.queue.length ∧
  s.receiver.queue.length ≤ 32 ∧
  (s.apply.state = .idle → s.receiver.queue = []) ∧
  (s.apply.state = .applying ↔ s.apply.todo ≠ []) ∧
  (s.apply.state = .applying → s.receiver.queue ≠ []) ∧
  (s.role = .standalone ∨ s.role = .primary → s.apply.state = .idle) ∧
  (s.role = .promoting → s.apply.state = .applying)

end Sys2Proof.Machine
end

