-- ==== Sys2Proof/WellFormed.lean ====
section
/-! DEFINITION. Which commands are well formed: those whose operands can be what their row of the table takes. -/

namespace Sys2Proof

open Sys2Proof.Machine

/-- A frame's bytes belong to the receive command of type `k` when their type byte names `k` or no type at all, or is missing: the
frames of another type are another command's (log entry 5). -/
def frameBytesOf (k : FrameType) (bytes : List Byte) : Bool :=
  match bytes.head? with
  | none => true
  | some b => match FrameType.ofCode b with
    | none => true
    | some t => t == k

/-- The well-formed commands. -/
def Instr.wf : Instr → Bool
  | .receiveHello bytes => frameBytesOf .hello bytes
  | .receiveStart bytes => frameBytesOf .start bytes
  | .receiveReady bytes => frameBytesOf .ready bytes
  | .receiveData bytes => frameBytesOf .data bytes
  | .receiveAck bytes => frameBytesOf .ack bytes
  | .receiveNak bytes => frameBytesOf .nak bytes
  | .receiveIdle bytes => frameBytesOf .idle bytes
  | .receiveHalt bytes => frameBytesOf .halt bytes
  | .unknownCommand code => (commandArgs code).isNone
  | .shortFrame bytes => framesShort bytes
  | .arrival _ => true
  | .init => true
  | .hostGrant => true
  | .sweepGrant => true
  | .applyGrant => true
  | .hostMemoryCompletion _ => true
  | .hostMemoryTimeout => true
  | .sweepReadCompletion _ => true
  | .sweepReadTimeout => true
  | .orphanedReadCompletion _ => true
  | .orphanedReadTimeout => true
  | .abandonedTransactionAnswer _ => true
  | .applyCompletion => true
  | .applyTimeout => true
  | .spaceWaitExpiry => true
  | .syncHoldExpiry => true
  | .selection => true
  | .repeatTimerExpiry => true
  | .keepaliveTimerExpiry => true
  | .silenceTimerExpiry => true
  | .retransmitTimerExpiry => true
  | .transmitFrameEnd => true
  | .truncatedFrame _ _ => true
  | .status => true
  | .readRegion _ => true
  | .writeRegion _ _ _ _ _ _ => true
  | .readParam _ => true
  | .writeParam _ _ => true
  | .setRole _ => true
  | .startRepair => true
  | .stopRepair => true
  | .placeMarker _ => true
  | .readMarkers => true
  | .relink => true
  | .promote => true
  | .clearFault => true
  | .readAlerts => true
  | .ackAlerts _ => true
  | .setAlertEnables _ => true
  | .readCounters _ _ _ => true
  | .resetPart => true
  | .powerOnReset _ => true
  | .frameEnd => true
  | .resetRelease _ => true

end Sys2Proof
end

