-- ==== Sys2Proof/Certificates/Slice0/Obligations.lean ====
section
/-! DEFINITION. The statements for the provers. -/

open Sys2Proof Sys2Proof.Machine

/-! ## The step, reset and totality -/

/-- The command at the front of the queue acts on the state with the queue's rest. On an empty queue the next event on the lines of the
management port and of the pair link acts, and where there is none the part stays as it is (the model's choice, log entries 4 and 21). -/
def Obligations.StepRunsTheFrontCommand : Prop :=
  (∀ (c : Instr) (rest : List Instr) (s : State), s.pending = c :: rest → step s = exec c { s with pending := rest }) ∧
  (∀ (e : LineEvent) (rest : List LineEvent) (s : State), s.pending = [] → s.lines = e :: rest →
    step s = State.lineEvent e { s with lines := rest }) ∧
  ∀ s : State, s.pending = [] → s.lines = [] → step s = .next s

/-- What the data book says every block holds after a power-on reset. -/
def Obligations.ResetLeavesTheBooksValues : Prop :=
  let s := State.reset
  s.role = .standalone ∧
  (∀ i : Fin 16, s.regions[i] = { valid := false, mode := .off, policy := .stall, pattern := 0x0000, care := 0x0000 }) ∧
  s.params = { windowBase := 0x00000000, pairId := 0, windowSize := 16, memLimit := 12, holdLimit := 250, retxInterval := 400,
               retryLimit := 5, silenceLimit := 5, journalReserve := 32, highWater := 224, lowWater := 160, sweepShare := 4,
               applyBurst := 4, autoRepair := true } ∧
  (s.host.state = .idle ∧ s.host.txn = none ∧ s.host.claim = false ∧ s.host.bound = false) ∧
  (s.mem.use = none ∧ s.mem.sweepWait = 0 ∧ s.mem.applyRun = 0) ∧
  (s.journal.records = [] ∧ s.journal.armed = true ∧ s.freeSlots = 256) ∧
  (s.map.flags = [] ∧ s.map.count = 0 ∧ s.map.cursor = 0) ∧
  s.sweep = { state := .idle, copy := none, request := false, read := none, stopPending := false, timeouts := 0 } ∧
  (s.link.state = .off ∧ s.link.due = Due.nothing ∧ s.link.tx = none ∧ s.link.repeatRun = false ∧ s.link.keepaliveRun = false ∧
    s.link.silence = none ∧ s.link.conflictReported = false ∧ s.link.haltRecord = none ∧ s.link.lastSession = 0 ∧
    s.link.lastServed = 0 ∧ s.link.continuity = false) ∧
  s.sender = { next := 0, retries := 0, timer := none } ∧
  s.receiver = { queue := [], expected := 0, appliedThrough := 255, nakPending := false } ∧
  s.apply = { state := .idle, todo := [], request := false } ∧
  s.pair = { state := .alone, outstanding := [], results := [] } ∧
  s.mgmt.phase = .deselected ∧ s.mdoPin = .undriven ∧ s.alertPin = .undriven ∧ s.symbolSent = .fill ∧
  (∀ i : Fin 15, s.alert.causes[i] = { state := .clear, count := 0 }) ∧ s.alert.enables = 0 ∧ s.alert.line = false ∧
  ∀ c : Counter, s.counter c = 0

/-- Every law that the steps keep holds after reset. -/
def Obligations.LawsHoldAtReset : Prop :=
  AlertLaw State.reset ∧ PairLaw State.reset ∧ SweepLaw State.reset ∧ MapLaw State.reset ∧ FenceLaw State.reset ∧
  CapacityLaw State.reset ∧ MarkerLaw State.reset ∧ JournalLaw State.reset ∧ BindingLaw State.reset ∧ HostLaw State.reset ∧
  LinkLaw State.reset ∧ TransmitterLaw State.reset ∧ ReplicaLaw State.reset

/-- No command stops the part: every command has a next state in every state, and so has every step. -/
def Obligations.EveryCommandHasANextState : Prop :=
  (∀ (c : Instr) (s : State), ∃ t, exec c s = .next t) ∧ ∀ s : State, ∃ t, step s = .next t

/-! ## The laws every step keeps -/

/-- R170, R175. -/
def Obligations.StepKeepsAlertLaw : Prop := ∀ s t : State, AlertLaw s → step s = .next t → AlertLaw t

/-- R141, R142: the pair state is never stale. -/
def Obligations.StepKeepsPairLaw : Prop := ∀ s t : State, PairLaw s → step s = .next t → PairLaw t

/-- R57, Tables 3.2 and 3.3. -/
def Obligations.StepKeepsSweepLaw : Prop := ∀ s t : State, SweepLaw s → step s = .next t → SweepLaw t

/-- R51. -/
def Obligations.StepKeepsMapLaw : Prop := ∀ s t : State, MapLaw s → step s = .next t → MapLaw t

/-- R8, the law of fencing. -/
def Obligations.StepKeepsFenceLaw : Prop := ∀ s t : State, FenceLaw s → step s = .next t → FenceLaw t

/-- R31, R32. -/
def Obligations.StepKeepsCapacityLaw : Prop := ∀ s t : State, CapacityLaw s → step s = .next t → CapacityLaw t

/-- R145, R149. -/
def Obligations.StepKeepsMarkerLaw : Prop := ∀ s t : State, MarkerLaw s → step s = .next t → MarkerLaw t

/-- R31, R33, R98. The sweep's law and the pair state's say where a placeholder and a marker may join the journal. -/
def Obligations.StepKeepsJournalLaw : Prop :=
  ∀ s t : State, JournalLaw s → SweepLaw s → PairLaw s → step s = .next t → JournalLaw t

/-- R30. The host port's law and the journal's say which writes and which records there are. -/
def Obligations.StepKeepsBindingLaw : Prop :=
  ∀ s t : State, BindingLaw s → HostLaw s → JournalLaw s → step s = .next t → BindingLaw t

/-- R9, Table 1.4. -/
def Obligations.StepKeepsHostLaw : Prop := ∀ s t : State, HostLaw s → step s = .next t → HostLaw t

/-- R76, R79, R88. -/
def Obligations.StepKeepsLinkLaw : Prop := ∀ s t : State, LinkLaw s → step s = .next t → LinkLaw t

/-- R78: a frame that becomes due while the transmitter is free is begun within the event.
That the transmitter chooses at the end of the event is the model's reading (log entry 8). -/
def Obligations.StepKeepsTransmitterLaw : Prop := ∀ s t : State, TransmitterLaw s → step s = .next t → TransmitterLaw t

/-- R115, R121, R123. -/
def Obligations.StepKeepsReplicaLaw : Prop := ∀ s t : State, ReplicaLaw s → step s = .next t → ReplicaLaw t

/-! ## Frames and the mirror window -/

/-- R75, R180, R181: the receiver reads back every frame of Table 4.1 that a transmitter lays out: its bytes pass the checks as that frame,
every symbol is read as itself in the column of the running disparity, with one to one line codes, and the symbols of a frame are gathered
as its bytes and take the command of its type. The line code's table is the family's (log entry 26). -/
def Obligations.ReceiverReadsEveryFrameSent : Prop :=
  (∀ f : LinkFrame, f.wf = true → checkFrame f.encode = some f) ∧
  (∀ (d : Disparity) (y : LineSymbol), decodeSymbol d (symbolCode d y) = some y) ∧
  (∀ f : LinkFrame, f.symbols = [.startOfFrame] ++ f.encode.map .data ++ [.endOfFrame]) ∧
  (∀ bytes : List Byte,
    (bytes.foldl (fun g b => (gather g (some (.data b))).1) (gather none (some .startOfFrame)).1) = some bytes ∧
    gather (some bytes) (some .endOfFrame) = (none, some (receiveCommand bytes))) ∧
  ∀ f : LinkFrame, receiveCommand f.encode = match f with
    | .hello _ => .receiveHello f.encode
    | .start _ _ => .receiveStart f.encode
    | .ready _ => .receiveReady f.encode
    | .data _ _ => .receiveData f.encode
    | .ack _ => .receiveAck f.encode
    | .nak _ => .receiveNak f.encode
    | .idle => .receiveIdle f.encode
    | .halt _ => .receiveHalt f.encode

/-- R75, R181: bytes that pass the four checks are the layout of the frame they are taken as, CRC included, and of no other. -/
def Obligations.ValidBytesAreALayout : Prop :=
  ∀ (bytes : List Byte) (f : LinkFrame), checkFrame bytes = some f → f.wf = true ∧ bytes = f.encode

/-- R2: how many blocks a transaction can touch, for a window base that R3 allows. -/
def Obligations.TouchedBlocksAreFew : Prop :=
  ∀ (base : Addr) (t : BusTxn), base.extractLsb' 0 28 = 0 →
    (isWriteTxn t = false → touched base t = []) ∧
    (∀ data, t.access = .writeBeat 0 data → touched base t = []) ∧
    (misalignedLineWrite t = false → (touched base t).length ≤ 1) ∧
    (misalignedLineWrite t = true → (touched base t).length ≤ 2) ∧
    ∀ b, b ∈ touched base t ↔ ∃ a ∈ written t, blockOf base a = some b

/-- R54: a fill takes exactly the mirrored blocks, each once, in rising order. -/
def Obligations.FillTakesTheMirroredBlocks : Prop :=
  ∀ rs : Vector Region 16,
    (mirroredBlocks rs).Pairwise (fun a b => a.toNat < b.toNat) ∧ ∀ b : Block, b ∈ mirroredBlocks rs ↔ isMirrored rs b = true

/-- R14, R34: the mask of an aligned LINE write or of a BEAT write names the bytes of its line that it writes, and its data holds the
bytes written there and zero elsewhere. -/
def Obligations.MaskNamesTheBytesWritten : Prop :=
  ∀ t : BusTxn, isWriteTxn t = true → misalignedLineWrite t = false →
    ∀ k : Fin 64,
      ((writeMask t).getLsbD k.val = true ↔ (t.addr &&& ~~~63#32) + BitVec.ofNat 32 k.val ∈ written t) ∧
      ((writeMask t).getLsbD k.val = false → (writeData t)[k] = 0) ∧
      (∀ data, t.access = .writeLine data → (writeData t)[k] = data[k]) ∧
      ∀ lanes data (j : Fin 8), t.access = .writeBeat lanes data → k.val = 8 * (t.addr.extractLsb' 3 3).toNat + j.val →
        ((writeMask t).getLsbD k.val = lanes.getLsbD j.val) ∧ (lanes.getLsbD j.val = true → (writeData t)[k] = data[j])

/-! ## The host port (chapter 1) -/

/-- R6, R9, R13: the course of a pass-through transaction up to memory. At the arrival it enters PORT_WAIT; at the grant it enters
IN_MEMORY with its fields unchanged, and a claim still held is released, which a WAITING sweep hears of.
That the arrival clears the answer last given is the model's view of an output (log entry 13). -/
def Obligations.PassThroughReachesMemory : Prop :=
  ∀ (s : State) (t : BusTxn), s.Runs → (s.role = .standalone ∨ s.touchedMirrored t = []) →
    (s.hostReady = true →
      exec (.arrival t) s = .next { s with host := { HostPort.idle with state := .portWait, txn := some t } }) ∧
    (s.host.txn = some t → s.hostGrantable = true →
      exec .hostGrant s = .next
        { s with
          host := { s.host with state := .inMemory, claim := false },
          mem := { use := some { owner := .host, txn := t, limit := s.params.memLimit },
                   sweepWait := if s.role = .primary ∧ s.sweep.request then s.mem.sweepWait + 1 else s.mem.sweepWait,
                   applyRun := if s.role = .replica ∨ s.role = .promoting then 0 else s.mem.applyRun },
          sweep := if s.host.claim ∧ s.sweep.state = .waiting ∧ s.params.journalReserve < 256 - s.journal.records.length then
                     { s.sweep with state := .copying, request := true }
                   else s.sweep })

/-- R7, R8: what the host port refuses at the arrival, and at the grant what has become fenced since.
That a fenced grant restarts the apply run count is the model's reading (log entry 12). -/
def Obligations.RefusedWritesAnswerFault : Prop :=
  ∀ (s : State) (t : BusTxn), s.Runs → s.touchedMirrored t ≠ [] →
    (s.role = .primary → misalignedLineWrite t = true → s.hostReady = true →
      exec (.arrival t) s = .next
        { s with host := { HostPort.idle with answer := some .fault },
                 counters := s.counters.set 9 (saturatingSucc s.counters[9]) }) ∧
    (s.role = .replica ∨ s.role = .promoting →
      (s.hostReady = true →
        exec (.arrival t) s = .next
          { s with host := { HostPort.idle with answer := some .fault },
                   counters := s.counters.set 8 (saturatingSucc s.counters[8]),
                   alert := (s.report .fenceRefusal).alert }) ∧
      (s.host.txn = some t → s.hostGrantable = true →
        exec .hostGrant s = .next
          { s with host := { HostPort.idle with answer := some .fault },
                   mem := { s.mem with applyRun := 0 },
                   counters := s.counters.set 8 (saturatingSucc s.counters[8]),
                   alert := (s.report .fenceRefusal).alert }))

/-- R10: the five outcomes of the admission test for a write to mirrored block b, in order. A claim that leaves a standing sweep request
no margin above JOURNAL_RESERVE makes the sweep withdraw it (R61).
That the arrival clears the answer last given is the model's view of an output (log entry 13). -/
def Obligations.AdmissionTakesTheFirstOutcome : Prop :=
  ∀ (s : State) (t : BusTxn) (b : Block) (bs : List Block), s.Runs → s.hostReady = true → s.role = .primary →
    misalignedLineWrite t = false → s.touchedMirrored t = b :: bs →
    let h : HostPort :=
      { HostPort.idle with
        txn := some t, noted := some { block := b, mode := blockMode s.regions b, policy := blockPolicy s.regions b } }
    let needs : Prop := s.link.state = .up ∧ (b ∈ s.map.flags → ∃ c, s.sweep.copy = some c ∧ c.block = b)
    let waits : HostPort := { h with state := .portWait }
    (¬needs → exec (.arrival t) s = .next { s with host := waits }) ∧
    (needs → s.journal.records.length < 256 →
      exec (.arrival t) s = .next
        (if s.sweep.request ∧ 255 - s.journal.records.length ≤ s.params.journalReserve then
          { s with host := { waits with claim := true }, sweep := { s.sweep with state := .waiting, request := false },
                   mem := { s.mem with sweepWait := 0 } }
         else { s with host := { waits with claim := true } })) ∧
    (needs → 256 ≤ s.journal.records.length →
      (s.journal.tailMerges (lineOf s.params.windowBase t.addr) = true →
        exec (.arrival t) s = .next { s with host := waits }) ∧
      (s.journal.tailMerges (lineOf s.params.windowBase t.addr) = false →
        (blockPolicy s.regions b = .mark → ∃ u, exec (.arrival t) s = .next u ∧
          u = { s with host := waits, map := s.map.set b, counters := s.counters.set 4 (saturatingSucc s.counters[4]),
                       sweep := u.sweep, pair := u.pair, alert := u.alert } ∧
          u.pair.state = u.derivedPair) ∧
        (blockPolicy s.regions b = .stall →
          exec (.arrival t) s = .next { s with host := { h with state := .spaceWait, timer := some s.params.holdLimit } })))

/-- R22: INIT by the host port's state.
One INIT command is one assertion of the line, the answer output is cleared with the port, and the sync waiter is cleared wherever it is
set (log entries 13, 17 and 18). -/
def Obligations.InitAbandonsByState : Prop :=
  ∀ s : State, s.Runs →
    (s.host.state = .idle → exec .init s = .next s) ∧
    (s.host.state = .spaceWait → exec .init s = .next { s with host := HostPort.idle }) ∧
    (s.host.state = .portWait →
      exec .init s = .next
        { s with host := HostPort.idle,
                 sweep := if s.host.claim ∧ s.sweep.state = .waiting ∧
                             s.params.journalReserve < 256 - s.journal.records.length then
                            { s.sweep with state := .copying, request := true }
                          else s.sweep }) ∧
    (s.host.state = .inMemory → ∀ u, s.mem.use = some u → u.owner = .host →
      exec .init s = .next
        { s with host := HostPort.idle,
                 mem := { s.mem with use := some { u with owner := .abandonedHost } },
                 journal := if s.host.bound then
                     { s.journal with records := s.journal.records.map fun r => { r with waiter := false } }
                   else s.journal }) ∧
    (s.host.state = .syncHold →
      exec .init s = .next
        { s with host := HostPort.idle,
                 journal := { s.journal with records := s.journal.records.map fun r => { r with waiter := false } } })

/-- R13, Table 1.6, with R14 and R34 to R35: the paths of a granted primary mirrored write, the first row whose condition holds; and a
misaligned LINE write, taken before the part was Primary, which is forwarded after every mirrored block it touches is set dirty. On the
append path the record may be sent at once (R100), which `kick` says. -/
def Obligations.GrantedWriteTakesItsPath : Prop :=
  ∀ (s : State) (t : BusTxn) (b : Block) (bs : List Block), s.Runs → s.role = .primary → s.host.txn = some t →
    s.hostGrantable = true → s.touchedMirrored t = b :: bs →
    let line := lineOf s.params.windowBase t.addr
    let bound := blockMode s.regions b == .sync && s.pair.state == .mirrored
    let mem : MemPort :=
      { use := some { owner := .host, txn := t, limit := s.params.memLimit },
        sweepWait := if s.sweep.request then s.mem.sweepWait + 1 else s.mem.sweepWait, applyRun := s.mem.applyRun }
    let host : HostPort := { s.host with state := .inMemory, claim := false }
    let released : Sweep :=
      if s.host.claim ∧ s.sweep.state = .waiting ∧ s.params.journalReserve < 256 - s.journal.records.length then
        { s.sweep with state := .copying, request := true }
      else s.sweep
    let dirty : Prop := b ∈ s.map.flags ∧ ∀ c, s.sweep.copy = some c → c.block ≠ b
    let merges : Prop := s.journal.tailMerges line = true
    (misalignedLineWrite t = true → ∃ u, exec .hostGrant s = .next u ∧
      u = { s with host := host, mem := mem, map := (b :: bs).foldl DirtyMap.set s.map, sweep := u.sweep, pair := u.pair,
                   alert := u.alert } ∧
      u.pair.state = u.derivedPair) ∧
    (misalignedLineWrite t = false →
    (dirty → exec .hostGrant s = .next { s with host := host, mem := mem, sweep := released }) ∧
    (¬dirty → s.link.state ≠ .up → ∃ u, exec .hostGrant s = .next u ∧
      u = { s with host := host, mem := mem, map := s.map.set b, sweep := u.sweep, pair := u.pair, alert := u.alert } ∧
      u.pair.state = u.derivedPair) ∧
    (¬dirty → s.link.state = .up → merges →
      exec .hostGrant s = .next
        { s with host := { host with bound := bound }, mem := mem, sweep := released,
                 journal := { s.journal with records := changeLast (Record.merge t bound) s.journal.records } }) ∧
    (¬dirty → s.link.state = .up → ¬merges → s.host.claim = true →
      ∃ u v : State, u = { s with
          host := { s.host with claim := false, bound := bound },
          mem := { s.mem with sweepWait := mem.sweepWait },
          journal := { s.journal with records := s.journal.records ++
            [{ body := .line line (writeMask t) (writeData t), state := .queued, seq := none, waiter := bound }] } } ∧
        v = u.waterTest.kick ∧ exec .hostGrant s = .next { v with host := { v.host with state := .inMemory }, mem := mem }) ∧
    (¬dirty → s.link.state = .up → ¬merges → s.host.claim = false → ∃ u, exec .hostGrant s = .next u ∧
      u = { s with host := host, mem := mem, map := s.map.set b, sweep := u.sweep, pair := u.pair, alert := u.alert } ∧
      u.pair.state = u.derivedPair))

/-- R9, R15, R22: memory completes a host transaction. -/
def Obligations.MemoryCompletionAnswersOrHolds : Prop :=
  ∀ (s : State) (u : PortUse) (data : LineBytes), s.Runs → s.mem.use = some u →
    (u.owner = .host → s.host.bound = true →
      exec (.hostMemoryCompletion data) s = .next
        { s with mem := { s.mem with use := none },
                 host := { s.host with state := .syncHold, timer := some s.params.holdLimit } }) ∧
    (u.owner = .host → s.host.bound = false →
      exec (.hostMemoryCompletion data) s = .next
        { s with mem := { s.mem with use := none },
                 host := { HostPort.idle with
                   answer := some (match u.txn.access with
                     | .readBeat => .doneBeat (Vector.ofFn fun k : Fin 8 => data[k.val])
                     | .readLine => .doneLine data
                     | .writeBeat _ _ => .doneWrite
                     | .writeLine _ => .doneWrite) } }) ∧
    (u.owner = .abandonedHost → exec (.hostMemoryCompletion data) s = .next { s with mem := { s.mem with use := none } })

/-- R17: a host memory transaction exceeds MEM_LIMIT. On a primary the mirrored blocks a write touches become dirty. That the sync waiter is
cleared wherever it is set is the model's reading (log entry 17). -/
def Obligations.MemoryTimeoutAnswersFault : Prop :=
  ∀ (s : State) (u : PortUse), s.Runs → s.mem.use = some u → (u.owner = .host ∨ u.owner = .abandonedHost) →
    ∃ v, exec .hostMemoryTimeout s = .next v ∧
      v = { s with
        mem := { s.mem with use := none },
        host := if u.owner = .host then { HostPort.idle with answer := some .fault } else s.host,
        journal := if u.owner = .host ∧ s.host.bound then
            { s.journal with records := s.journal.records.map fun r => { r with waiter := false } }
          else s.journal,
        counters := s.counters.set 7 (saturatingSucc s.counters[7]),
        map := if s.role = .primary then (s.touchedMirrored u.txn).foldl DirtyMap.set s.map else s.map,
        sweep := v.sweep, pair := v.pair, alert := v.alert } ∧
      v.cause .memoryTimeout = (s.cause .memoryTimeout).occur ∧
      (s.role ≠ .primary ∨ s.touchedMirrored u.txn = [] →
        v.sweep = s.sweep ∧ v.pair = s.pair ∧ v.alert = (s.report .memoryTimeout).alert) ∧
      (s.role = .primary → s.touchedMirrored u.txn ≠ [] → v.pair.state = v.derivedPair)

/-- R12 and the expiry of R16: HOLD_LIMIT runs out in SPACE_WAIT and in SYNC_HOLD. An expiry that finds its wait over does nothing, which is
the model's choice for a stopped timer (log entry 5); that the sync waiter is cleared wherever it is set is its reading (log entry 17). -/
def Obligations.HoldLimitExpiryEndsTheWait : Prop :=
  ∀ s : State, s.Runs →
    (∀ n, s.host.state = .spaceWait → s.host.noted = some n → s.role = .primary →
      ∃ u, exec .spaceWaitExpiry s = .next u ∧
        u = { s with host := { s.host with state := .portWait, claim := false, timer := none }, map := s.map.set n.block,
                     counters := s.counters.set 5 (saturatingSucc s.counters[5]),
                     sweep := u.sweep, pair := u.pair, alert := u.alert } ∧
        u.pair.state = u.derivedPair) ∧
    (s.host.state ≠ .spaceWait → exec .spaceWaitExpiry s = .next s) ∧
    (s.host.state = .syncHold →
      exec .syncHoldExpiry s = .next
        { s with host := { HostPort.idle with answer := some .doneWrite },
                 journal := { s.journal with records := s.journal.records.map fun r => { r with waiter := false } },
                 counters := s.counters.set 6 (saturatingSucc s.counters[6]),
                 alert := (s.report .syncTimeout).alert }) ∧
    (s.host.state ≠ .syncHold → exec .syncHoldExpiry s = .next s)

/-! ## The repair sweep (chapter 3) -/

/-- R60, R53: the selection takes the first set flag from the cursor upward and around, clears it and makes the reserve test. A write in
SPACE_WAIT that then takes a claim can make the sweep withdraw again (R48).
That the re-test is made once, on the state the event leaves, is the model's reading (log entry 6). -/
def Obligations.SelectionTakesTheNextDirtyBlock : Prop :=
  ∀ (s : State) (b : Block), s.Runs → s.sweep.state = .scanning → MapLaw s → b ∈ s.map.flags →
    (∀ c ∈ s.map.flags, (b - s.map.cursor).toNat ≤ (c - s.map.cursor).toNat) →
    ∃ u, exec .selection s = .next u ∧
      u.map = { flags := s.map.flags.erase b, count := s.map.count - 1, cursor := b + 1 } ∧
      u.sweep.copy = some { block := b, line := 0 } ∧
      (s.freeSlots ≤ s.params.journalReserve → u.sweep.state = .waiting ∧ u.sweep.request = false) ∧
      (s.params.journalReserve < s.freeSlots → s.host.state ≠ .spaceWait → u.sweep.state = .copying ∧ u.sweep.request = true) ∧
      u.pair.state = u.derivedPair ∧
      (s.host.state ≠ .spaceWait → s.link.tx.isSome = true →
        u = { s with map := u.map, pair := u.pair, alert := u.alert,
                     sweep := { s.sweep with state := u.sweep.state, copy := u.sweep.copy, request := u.sweep.request } })

/-- R62, R37: the sweep's grant starts the line read at WINDOW_BASE + (b × 64 + k) × 64 and appends its placeholder, for which there is a
slot; the occupancy is then tested (R46), which `waterTest` says. Once the request is withdrawn there is no grant. -/
def Obligations.SweepGrantAppendsThePlaceholder : Prop :=
  ∀ (s : State) (c : Copy), s.Runs → s.sweep.copy = some c → s.sweepGrantable = true →
    let addr := s.params.windowBase + BitVec.ofNat 32 ((c.block.toNat * 64 + c.line.toNat) * 64)
    (CapacityLaw s → s.journal.records.length < 256) ∧
    exec .sweepGrant { s with sweep := { s.sweep with request := false } } =
      .next { s with sweep := { s.sweep with request := false } } ∧
    exec .sweepGrant s = .next (State.waterTest
      { s with
        mem := { s.mem with use := some { owner := .sweep, txn := { addr := addr, access := .readLine }, limit := s.params.memLimit },
                            sweepWait := 0 },
        sweep := { s.sweep with request := false, read := some { line := c.block ++ c.line, current := true } },
        journal := { s.journal with records := s.journal.records ++
          [{ body := .image (c.block ++ c.line) none, state := .filling, seq := none, waiter := false }] } })

/-- R63, R68, R38: a line read of the current copy completes. The placeholder is filled; then the next line, the end of the copy after line
63, or the stop that is pending. The event ends with the host port's re-test, the pair state and the transmitter.
The one re-test is the model's reading (log entry 6). -/
def Obligations.SweepReadCompletionAdvances : Prop :=
  ∀ (s : State) (c : Copy) (data : LineBytes), s.Runs → s.role = .primary → s.sweep.state = .copying → s.sweep.copy = some c →
    s.sweepReadInMemory true = true →
    let filled : State :=
      { s with mem := { s.mem with use := none },
               journal := { s.journal with records := s.journal.records.map (Record.fill data) } }
    (s.sweep.stopPending = true →
      exec (.sweepReadCompletion data) s = .next (State.finish (State.retestHost
        { filled with map := s.map.set c.block,
                      sweep := { state := .stopped, copy := none, request := false, read := none, stopPending := false,
                                 timeouts := 0 } }))) ∧
    (s.sweep.stopPending = false → c.line ≠ 63 →
      exec (.sweepReadCompletion data) s = .next (State.finish (State.retestHost
        { filled with sweep := { s.sweep with
            state := if s.params.journalReserve < s.freeSlots then .copying else .waiting,
            request := decide (s.params.journalReserve < s.freeSlots),
            copy := some { c with line := c.line + 1 }, read := none, timeouts := 0 } }))) ∧
    (s.sweep.stopPending = false → c.line = 63 →
      exec (.sweepReadCompletion data) s = .next (State.finish (State.retestHost
        { filled with counters := s.counters.set 10 (saturatingSucc s.counters[10]),
                      sweep := { state := if s.map.count = 0 then .idle else .scanning, copy := none, request := false,
                                 read := none, stopPending := false, timeouts := 0 } })))

/-- R65, R39: a line read of the current copy times out. The placeholder is withdrawn and the blocks marked; the fourth timeout in a row
reports SWEEP_FAULT and stops the sweep.
The host port hears of the rise first by the model's choice of order (log entry 6). -/
def Obligations.SweepReadTimeoutGivesTheBlockBack : Prop :=
  ∀ (s : State) (c : Copy), s.Runs → s.role = .primary → s.sweep.state = .copying → s.sweep.copy = some c →
    s.sweepReadInMemory true = true →
    let gone := s.journal.records.filter fun r => r.state == .filling
    let map := ((gone.filterMap Record.block?).foldl DirtyMap.set s.map).set c.block
    let faulted := 4 ≤ s.sweep.timeouts + 1
    exec .sweepReadTimeout s = .next (State.finish (State.waterTest (State.announceRise
      { s with mem := { s.mem with use := none },
               journal := { s.journal with records := s.journal.records.filter fun r => r.state != .filling },
               map := map,
               sweep := { state := if faulted ∨ s.sweep.stopPending then .stopped else if map.count = 0 then .idle else .scanning,
                          copy := none, request := false, read := none, stopPending := false,
                          timeouts := s.sweep.timeouts + 1 },
               alert := if faulted then (s.report .sweepFault).alert else s.alert })))

/-- R70, R18: the ends of reads and the answers that belong to no transaction any more.
That the part keeps no state about abandoned transactions is the model's reading (log entry 16). -/
def Obligations.EndsWithoutATransactionAreDiscarded : Prop :=
  ∀ (s : State) (data : LineBytes),
    (s.Runs → s.sweepReadInMemory false = true →
      exec (.orphanedReadCompletion data) s =
        .next { s with mem := { s.mem with use := none }, sweep := { s.sweep with read := none } } ∧
      exec .orphanedReadTimeout s =
        .next { s with mem := { s.mem with use := none }, sweep := { s.sweep with read := none } }) ∧
    exec (.abandonedTransactionAnswer data) s = .next s

/-! ## The pair link and the sender (chapters 4 and 5) -/

/-- R78, R79, R101, R102: at the end of a frame the keepalive timer restarts while the link is UP and the transmitter begins the first due
frame in the order HALT, READY, START, HELLO, NAK, ACK, DATA, IDLE. And R73, R180: line fill, at least one FILL symbol, stands between that end and the next
frame's START-OF-FRAME; a frame then crosses the line symbol by symbol, and ends with its END-OF-FRAME; a free transmitter sends FILL.
How many FILL symbols stand there is a free value (log entry 28), and the line code's table is the family's (log entry 26). -/
def Obligations.TransmitterBeginsTheFirstDueFrame : Prop :=
  ∀ (s : State), s.Runs → s.link.tx.isSome = true →
    let d := s.link.due
    let separated : Wire := { s.wire with sent := 0, fillDue := Config.moreFill s.freeIndex + 1 }
    let begins (f : LinkFrame) (due : Due) : State :=
      { s with link := { s.link with tx := some f, due := due, keepaliveRun := s.linkUp }, wire := separated,
               freeIndex := s.freeIndex + 1 }
    (∀ r, d.halt = some r → exec .transmitFrameEnd s = .next (begins (.halt r) { d with halt := none })) ∧
    (d.halt = none → d.ready = true →
      exec .transmitFrameEnd s = .next (begins (.ready s.link.lastServed) { d with ready := false })) ∧
    (∀ m, d.halt = none → d.ready = false → d.start = true → s.link.phase = .start m →
      exec .transmitFrameEnd s = .next (begins (.start s.link.lastSession m) { d with start := false })) ∧
    (d.halt = none → d.ready = false → d.start = false → d.hello = true →
      (s.role = .primary →
        exec .transmitFrameEnd s = .next (begins
          (.hello { role := .primary, pairId := s.params.pairId, session := successor s.link.lastSession,
                    continuity := false, queueEmpty := true }) { d with hello := false })) ∧
      (s.role = .replica →
        exec .transmitFrameEnd s = .next (begins
          (.hello { role := .replica, pairId := s.params.pairId, session := s.link.lastServed,
                    continuity := s.link.continuity, queueEmpty := s.receiver.queue.isEmpty }) { d with hello := false }))) ∧
    (d.halt = none → d.ready = false → d.start = false → d.hello = false →
      (d.nak = true → exec .transmitFrameEnd s = .next (begins (.nak s.receiver.expected) { d with nak := false })) ∧
      (d.nak = false → d.ack = true →
        exec .transmitFrameEnd s = .next (begins (.ack s.receiver.appliedThrough) { d with ack := false })) ∧
      (d.nak = false → d.ack = false →
        (∀ pre r post q, s.role = .primary → s.link.state = .up → s.journal.records = pre ++ r :: post →
          (∀ p ∈ pre, p.state ≠ .resend) → r.state = .resend → r.seq = some q →
          exec .transmitFrameEnd s = .next
            { begins (.data q r.payload) d with
              journal := { s.journal with records := pre ++ { r with state := .sent } :: post },
              counters := s.counters.set 1 (saturatingSucc s.counters[1]) }) ∧
        (∀ pre r post, s.role = .primary → s.link.state = .up → s.journal.records = pre ++ r :: post →
          (∀ p ∈ pre, p.state = .sent) → r.state = .queued → (∀ p ∈ post, p.isOutstanding = false) →
          pre.length < s.params.windowSize →
          exec .transmitFrameEnd s = .next
            { begins (.data s.sender.next r.payload) d with
              journal := { s.journal with records := pre ++ { r with state := .sent, seq := some s.sender.next } :: post },
              sender := { s.sender with next := s.sender.next + 1,
                                        timer := if pre = [] then some s.params.retxInterval else s.sender.timer },
              counters := s.counters.set 0 (saturatingSucc s.counters[0]) }) ∧
        (s.dataFrame.isNone = true →
          (d.idle = true → exec .transmitFrameEnd s = .next (begins .idle { d with idle := false })) ∧
          (d.idle = false →
            exec .transmitFrameEnd s = .next { s with link := { s.link with tx := none, keepaliveRun := s.linkUp },
                                                      wire := separated, freeIndex := s.freeIndex + 1 })))) ∧
    ∀ (v : State) (f : LinkFrame), v.Runs →
      let crossed : State := { v with wire := { v.wire with txDisparity := disparityAfterCode v.wire.txDisparity v.lineOut } }
      (v.link.tx = some f → v.wire.fillDue = 0 → v.wire.sent + 1 < f.symbols.length →
        v.lineOut = symbolCode v.wire.txDisparity (f.symbols.getD v.wire.sent .fill) ∧
        v.lineEvent .symbolOut = .next { crossed with wire := { crossed.wire with sent := v.wire.sent + 1 } }) ∧
      (v.link.tx = some f → v.wire.fillDue = 0 → v.wire.sent + 1 = f.symbols.length →
        v.lineOut = symbolCode v.wire.txDisparity .endOfFrame ∧ v.lineEvent .symbolOut = exec .transmitFrameEnd crossed) ∧
      (v.link.tx = none ∨ 1 ≤ v.wire.fillDue → v.lineOut = symbolCode v.wire.txDisparity .fill ∧
        v.lineEvent .symbolOut = .next { crossed with wire := { crossed.wire with fillDue := v.wire.fillDue - 1 } })

/-- R79: the repeat timer makes the training frame of the phase due and runs on; the keepalive timer makes an IDLE frame due and stands. A
free transmitter then begins a frame (R78), which `kick` says.
That an expiry can come whenever its timer runs is the model's choice (log entry 7). -/
def Obligations.TimerExpiryMakesItsFrameDue : Prop :=
  ∀ s : State, s.Runs →
    (∀ m, s.link.repeatRun = true → s.role = .primary → s.link.phase = .start m →
      exec .repeatTimerExpiry s =
        .next (State.kick { s with link := { s.link with due := { s.link.due with start := true } } })) ∧
    (s.link.repeatRun = true → (s.role ≠ .primary ∨ s.link.phase = .hello) →
      exec .repeatTimerExpiry s =
        .next (State.kick { s with link := { s.link with due := { s.link.due with hello := true } } })) ∧
    (s.link.keepaliveRun = true →
      exec .keepaliveTimerExpiry s =
        .next (State.kick { s with link := { s.link with due := { s.link.due with idle := true }, keepaliveRun := false } }))

/-- R88, R93, R94, R45: silence takes the link from UP to TRAINING with LINK_LOST. On a primary it is a session end: the journal is
emptied into the dirty map, every outstanding marker fails, a held write is answered and a bound one unbound, a copy is given back, and the
sender and the pair state start afresh. A replica's receiver and apply engine keep what they hold.
The phase field and the one re-test are the model's (log entries 2 and 6). -/
def Obligations.SilenceEndsTheSession : Prop :=
  ∀ (s : State) (l : Nat), s.Runs → s.link.silence = some l → s.link.state = .up →
    ∃ u, exec .silenceTimerExpiry s = .next u ∧
      u.link.state = .training ∧ u.link.phase = .hello ∧ u.link.repeatRun = true ∧ u.link.keepaliveRun = false ∧
      u.link.silence = none ∧ u.link.conflictReported = false ∧ u.cause .linkLost = (s.cause .linkLost).occur ∧
      u.link.lastSession = s.link.lastSession ∧ u.link.lastServed = s.link.lastServed ∧
      u.link.continuity = s.link.continuity ∧ u.link.haltRecord = s.link.haltRecord ∧
      u.pair.state = u.derivedPair ∧
      u = { s with link := u.link, journal := u.journal, sender := u.sender, map := u.map, sweep := u.sweep, host := u.host,
                   pair := u.pair, alert := u.alert, mem := { s.mem with sweepWait := u.mem.sweepWait } } ∧
      (s.role = .primary →
        u.journal.records = [] ∧ u.sender = { next := 0, retries := 0, timer := none } ∧
        (∀ b, b ∈ u.map.flags ↔ b ∈ s.map.flags ∨ b ∈ s.journal.records.filterMap Record.block? ∨
          (s.sweep.state = .copying ∨ s.sweep.state = .waiting ∨ s.sweep.state = .scanning) ∧
            ∃ c, s.sweep.copy = some c ∧ c.block = b) ∧
        u.map.cursor = s.map.cursor ∧
        u.pair.outstanding = [] ∧
        (s.pair.results.length + s.pair.outstanding.length ≤ 8 →
          u.pair.results = s.pair.results ++ s.pair.outstanding.map fun tag => { tag := tag, outcome := .failed }) ∧
        (s.sweep.state = .stopped ∨ s.sweep.state = .idle → u.sweep = s.sweep) ∧
        (s.sweep.state ≠ .stopped → s.sweep.state ≠ .idle →
          u.sweep.state = .idle ∧ u.sweep.copy = none ∧ u.sweep.request = false ∧ u.sweep.stopPending = false ∧
            u.sweep.timeouts = s.sweep.timeouts ∧ ∀ r ∈ u.sweep.read, r.current = false) ∧
        (s.host.state = .syncHold → u.host = { HostPort.idle with answer := some .doneWrite }) ∧
        (s.host.state = .inMemory → u.host = { s.host with bound := false }) ∧
        (s.host.state = .portWait ∨ s.host.state = .idle → u.host = s.host) ∧
        (∀ n t, s.host.state = .spaceWait → s.host.noted = some n → s.host.txn = some t →
          u.host = { s.host with state := .portWait, claim := false, timer := none })) ∧
      (s.role ≠ .primary →
        u = { s with link := u.link, pair := u.pair, alert := u.alert })

/-- R109, R110: the retransmit timer expires. Within RETRY_LIMIT every SENT record is rewound and the timer restarts; past it the session
is given up with a HALT. -/
def Obligations.RetransmitExpiryRewindsOrHalts : Prop :=
  ∀ (s : State) (p : Nat), s.Runs → s.sender.timer = some p →
    (s.sender.retries + 1 ≤ s.params.retryLimit →
      exec .retransmitTimerExpiry s = .next (State.kick
        { s with journal := { s.journal with records := s.journal.records.map fun r =>
                   if r.state = .sent then { r with state := .resend } else r },
                 sender := { s.sender with retries := s.sender.retries + 1, timer := some s.params.retxInterval } })) ∧
    (s.params.retryLimit < s.sender.retries + 1 → s.role = .primary → s.link.state = .up →
      ∃ u, exec .retransmitTimerExpiry s = .next u ∧
        u = { s with link := u.link, journal := u.journal, sender := u.sender, map := u.map, sweep := u.sweep, host := u.host,
                     pair := u.pair, alert := u.alert, mem := { s.mem with sweepWait := u.mem.sweepWait } } ∧
        u.link.state = .halted ∧
        u.link.haltRecord = some { reason := .retryExhausted, direction := .sent } ∧
        u.cause .linkHalted = (s.cause .linkHalted).occur ∧
        u.journal.records = [] ∧ u.sender = { next := 0, retries := 0, timer := none } ∧
        (∀ b ∈ s.journal.records.filterMap Record.block?, b ∈ u.map.flags) ∧ u.pair.outstanding = [] ∧
        u.pair.state = u.derivedPair ∧
        (s.link.tx = none → u.link.tx = some (.halt .retryExhausted) ∧ u.link.due.halt = none) ∧
        (s.link.tx.isSome = true → u.link.tx = s.link.tx ∧ u.link.due.halt = some .retryExhausted))

/-- R75, R180: a frame that fails a check is discarded and counted in TRAINING, UP and HALTED, whatever its type, and so is a truncated
frame; in OFF a frame is ignored without a check. Symbol by symbol: START-OF-FRAME begins a frame, data symbols are gathered, END-OF-FRAME
takes the frame, FILL, START-OF-FRAME or an invalid symbol truncates it, and symbols outside a frame are ignored. Bytes of no type stand in
any receive command (log entry 15). -/
def Obligations.DiscardedFramesAreCounted : Prop :=
  (∀ (s : State) (bytes : List Byte) (symbol : TruncatingSymbol), s.Runs →
    let counted : State := { s with counters := s.counters.set 3 (saturatingSucc s.counters[3]) }
    (s.link.state ≠ .off → exec (.truncatedFrame bytes symbol) s = .next counted) ∧
    (s.link.state = .off → exec (.truncatedFrame bytes symbol) s = .next s) ∧
    ∀ c ∈ [Instr.receiveHello bytes, .receiveStart bytes, .receiveReady bytes, .receiveData bytes, .receiveAck bytes,
           .receiveNak bytes, .receiveIdle bytes, .receiveHalt bytes],
      (s.link.state ≠ .off → checkFrame bytes = none → exec c s = .next counted) ∧
      (s.link.state = .off → exec c s = .next s)) ∧
  ∀ (s : State) (code : LineCode), s.Runs →
    let y := decodeSymbol s.wire.rxDisparity code
    let holding (g : Option (List Byte)) : State :=
      { s with wire := { s.wire with rxDisparity := disparityAfterCode s.wire.rxDisparity code, gathered := g } }
    let cut (g : Option (List Byte)) : State :=
      if s.link.state = .off then holding g
      else { holding g with counters := s.counters.set 3 (saturatingSucc s.counters[3]) }
    (s.wire.gathered = none → y ≠ some .startOfFrame → s.lineEvent (.symbolIn code) = .next (holding none)) ∧
    (s.wire.gathered = none → y = some .startOfFrame → s.lineEvent (.symbolIn code) = .next (holding (some []))) ∧
    ∀ bytes, s.wire.gathered = some bytes →
      (∀ b, y = some (.data b) → s.lineEvent (.symbolIn code) = .next (holding (some (bytes ++ [b])))) ∧
      (y = some .endOfFrame → s.lineEvent (.symbolIn code) = exec (receiveCommand bytes) (holding none)) ∧
      (y = some .startOfFrame → s.lineEvent (.symbolIn code) = .next (cut (some []))) ∧
      (y = some .fill ∨ y = none → s.lineEvent (.symbolIn code) = .next (cut none))

/-- R80 to R82, R84, R87, R89: a valid HELLO. In the HELLO phase an acceptable one brings the mode decision; in the START phase it can
turn INCREMENTAL into FULL; a conflicting one is reported once in an episode; and in UP it first ends the session (`loseLink`, which
SilenceEndsTheSession says) and is then tested as in the HELLO phase of a new episode.
That the transmitter chooses once, at the end of the event, and so can begin the START of a decision before the HELLO made due at the entry
into TRAINING, and that a write in SPACE_WAIT is re-tested once, within the session end, are the model's readings (log entries 8 and 6). -/
def Obligations.HelloDecidesTheSession : Prop :=
  ∀ (s : State) (bytes : List Byte) (h : Hello), s.Runs → checkFrame bytes = some (.hello h) →
    let full : DirtyMap :=
      { flags := mirroredBlocks s.regions, count := (mirroredBlocks s.regions).length, cursor := 0 }
    (s.link.state = .training → s.role = .primary → h.role = .replica → h.pairId = s.params.pairId → h.queueEmpty = true →
      (s.link.phase = .hello →
        let m : SessionMode :=
          if h.session = s.link.lastSession ∧ s.link.lastSession ≠ 0 ∧ h.continuity = true then .incremental else .full
        exec (.receiveHello bytes) s = .next (State.finish
          { s with link := { s.link with lastSession := successor s.link.lastSession, phase := .start m, repeatRun := true,
                                          due := { s.link.due with start := true, hello := false } },
                   map := if m = .full then full else s.map })) ∧
      (s.link.phase = .start .full → exec (.receiveHello bytes) s = .next s.finish) ∧
      (s.link.phase = .start .incremental →
        exec (.receiveHello bytes) s = .next (State.finish
          (if h.continuity = true ∧ (h.session = s.link.lastSession ∨ predecessor s.link.lastSession = some h.session) then s
           else { s with link := { s.link with phase := .start .full }, map := full })))) ∧
    (s.link.state = .training → s.role = .primary → h.role = .replica → h.pairId = s.params.pairId → h.queueEmpty = false →
      exec (.receiveHello bytes) s = .next s.finish) ∧
    (s.link.state = .training →
      (s.role = .primary ∧ (h.role = .primary ∨ h.pairId ≠ s.params.pairId) ∨
        s.role = .replica ∧ (h.role = .replica ∨ h.pairId ≠ s.params.pairId)) →
      exec (.receiveHello bytes) s = .next (State.finish
        (if s.link.conflictReported = true then s
         else { s with link := { s.link with conflictReported := true }, alert := (s.report .roleConflict).alert }))) ∧
    (s.link.state = .training → s.role = .replica → h.role = .primary → h.pairId = s.params.pairId →
      exec (.receiveHello bytes) s = .next s.finish) ∧
    (s.link.state = .up →
      let lost : State := State.loseLink { s with link := { s.link with silence := some s.params.silenceLimit } }
      let m : SessionMode :=
        if h.session = s.link.lastSession ∧ s.link.lastSession ≠ 0 ∧ h.continuity = true then .incremental else .full
      lost.link.state = .training ∧ lost.link.phase = .hello ∧ lost.link.lastSession = s.link.lastSession ∧
      lost.link.conflictReported = false ∧ lost.cause .linkLost = (s.cause .linkLost).occur ∧
      ((s.role = .primary ∧ (h.role = .primary ∨ h.pairId ≠ s.params.pairId) ∨
          s.role = .replica ∧ (h.role = .replica ∨ h.pairId ≠ s.params.pairId)) →
        exec (.receiveHello bytes) s = .next (State.finish
          { lost with link := { lost.link with conflictReported := true }, alert := (lost.report .roleConflict).alert })) ∧
      (s.role = .primary → h.role = .replica → h.pairId = s.params.pairId →
        (h.queueEmpty = true →
          exec (.receiveHello bytes) s = .next (State.finish
            { lost with link := { lost.link with lastSession := successor s.link.lastSession, phase := .start m, repeatRun := true,
                                                 due := { lost.link.due with start := true, hello := false } },
                        map := if m = .full then full else lost.map })) ∧
        (h.queueEmpty = false → exec (.receiveHello bytes) s = .next lost.finish)) ∧
      (s.role = .replica → h.role = .primary → h.pairId = s.params.pairId →
        exec (.receiveHello bytes) s = .next lost.finish)) ∧
    (s.link.state = .up → (s.role = .primary ∨ s.role = .replica) →
      ∃ u, exec (.receiveHello bytes) s = .next u ∧ u.link.state = .training ∧ u.cause .linkLost = (s.cause .linkLost).occur ∧
        u.link.repeatRun = true ∧
        u = { s with link := u.link, journal := u.journal, sender := u.sender, map := u.map, sweep := u.sweep, host := u.host,
                     pair := u.pair, alert := u.alert, mem := { s.mem with sweepWait := u.mem.sweepWait } } ∧
        (s.role = .primary → u.journal.records = [] ∧ u.pair.outstanding = []) ∧
        (s.role = .replica → u = { s with link := u.link, pair := u.pair, alert := u.alert })) ∧
    (s.link.state = .halted → exec (.receiveHello bytes) s = .next s)

/-- R85, R86, R116: a valid START on a replica. -/
def Obligations.StartOpensTheReplicasSession : Prop :=
  ∀ (s : State) (bytes : List Byte) (session : SessionNo) (mode : SessionMode), s.Runs → s.role = .replica →
    checkFrame bytes = some (.start session mode) →
    let stands : Prop := s.receiver.queue = [] ∧
      (mode = .full ∨ s.link.continuity = true ∧ (session = s.link.lastServed ∨ session = successor s.link.lastServed))
    (s.link.state = .training → stands →
      ∃ u, exec (.receiveStart bytes) s = .next u ∧
        u = { s with link := { s.link with
                       state := .up, lastServed := session, continuity := true, repeatRun := false, keepaliveRun := true,
                       silence := some s.params.silenceLimit, tx := u.link.tx, due := u.link.due },
                     receiver := { queue := [], expected := 0, appliedThrough := 255, nakPending := false },
                     alert := u.alert, pair := u.pair } ∧
        u.cause .linkUp = (s.cause .linkUp).occur ∧ u.pair.state = .alone ∧
        (s.link.tx.isSome = true → u.link.tx = s.link.tx ∧ u.link.due.ready = true) ∧
        (s.link.tx = none → u.link.tx = some (.ready session))) ∧
    (s.link.state = .training → ¬stands → exec (.receiveStart bytes) s = .next s.finish) ∧
    (s.link.state = .up → session = s.link.lastServed →
      exec (.receiveStart bytes) s = .next (State.kick
        { s with link := { s.link with due := { s.link.due with ready := true }, silence := some s.params.silenceLimit } })) ∧
    (s.link.state = .up → session ≠ s.link.lastServed →
      ∃ u, exec (.receiveStart bytes) s = .next u ∧ u.cause .linkLost = (s.cause .linkLost).occur ∧
        u = { s with link := u.link, receiver := u.receiver, alert := u.alert, pair := u.pair } ∧
        (stands → u.link.state = .up ∧ u.link.lastServed = session ∧ u.receiver.expected = 0) ∧
        (¬stands → u.link.state = .training ∧ u.link.lastServed = s.link.lastServed ∧ u.receiver = s.receiver))

/-- R83, R58, R99, R88, R91: READY makes a primary's link UP; an IDLE frame only restarts the silence timer; a HALT taken in UP leaves the
link HALTED with its reason recorded as received.
What stays due in a new link state is the model's reading of Table 4.2 (log entry 9). -/
def Obligations.ReadyIdleAndHaltFrames : Prop :=
  ∀ (s : State) (bytes : List Byte), s.Runs →
    (∀ session m, checkFrame bytes = some (.ready session) → s.role = .primary → s.link.state = .training →
      s.link.phase = .start m → session = s.link.lastSession →
      ∃ u, exec (.receiveReady bytes) s = .next u ∧
        u.link.state = .up ∧ u.link.repeatRun = false ∧ u.link.keepaliveRun = true ∧
        u.link.silence = some s.params.silenceLimit ∧ u.cause .linkUp = (s.cause .linkUp).occur ∧
        (s.journal.records = [] →
          u = { s with link := u.link, sender := { next := 0, retries := 0, timer := none }, sweep := u.sweep, pair := u.pair,
                       alert := u.alert }) ∧
        u.sweep = { s.sweep with state :=
          if s.sweep.state = .idle then
            (if s.params.autoRepair = true then (if s.map.count = 0 then .idle else .scanning) else .stopped)
          else s.sweep.state } ∧
        u.pair.state = u.derivedPair ∧ u.map = s.map ∧ u.host = s.host) ∧
    (∀ session, checkFrame bytes = some (.ready session) → s.link.state = .up →
      exec (.receiveReady bytes) s = .next { s with link := { s.link with silence := some s.params.silenceLimit } }) ∧
    (checkFrame bytes = some .idle → s.link.state = .up →
      exec (.receiveIdle bytes) s = .next { s with link := { s.link with silence := some s.params.silenceLimit } }) ∧
    (∀ r, checkFrame bytes = some (.halt r) → s.link.state = .up →
      ∃ u, exec (.receiveHalt bytes) s = .next u ∧
        u = { s with link := u.link, journal := u.journal, sender := u.sender, map := u.map, sweep := u.sweep, host := u.host,
                     pair := u.pair, alert := u.alert, mem := { s.mem with sweepWait := u.mem.sweepWait } } ∧
        u.link.state = .halted ∧
        u.link.haltRecord = some { reason := r, direction := .received } ∧ u.cause .linkHalted = (s.cause .linkHalted).occur ∧
        u.link.repeatRun = false ∧ u.link.keepaliveRun = false ∧ u.link.silence = none ∧
        (s.link.tx.isSome = true → u.link.tx = s.link.tx ∧ u.link.due = Due.keep s.link.due .halted) ∧
        u.pair.state = u.derivedPair ∧ (s.role = .primary → u.journal.records = [] ∧ u.pair.outstanding = []) ∧
        (s.role = .replica → u = { s with link := u.link, pair := u.pair, alert := u.alert })) ∧
    (∀ r, checkFrame bytes = some (.halt r) → (s.link.state = .training ∨ s.link.state = .halted) →
      exec (.receiveHalt bytes) s = .next s)

/-- R117 to R120: a DATA frame taken by an active receiver is placed by its lag, the expected number minus its own modulo 256. Every valid
frame also restarts the silence timer (R88), and what becomes due may be begun at once (`kick`, R78).
That the transmitter chooses at the end of the event is the model's reading (log entry 8). -/
def Obligations.DataFrameIsPlacedByLag : Prop :=
  ∀ (s : State) (bytes : List Byte) (seq : SeqNo) (payload : Payload), s.Runs → s.role = .replica → s.link.state = .up →
    checkFrame bytes = some (.data seq payload) →
    let lag := (s.receiver.expected - seq).toNat
    let heard : Link := { s.link with silence := some s.params.silenceLimit }
    let queued : Receiver :=
      { s.receiver with queue := s.receiver.queue ++ [{ seq := seq, payload := payload }],
                        expected := s.receiver.expected + 1, nakPending := false }
    let gap : State :=
      if s.receiver.nakPending = true then { s with link := heard }
      else { s with receiver := { s.receiver with nakPending := true },
                    link := { heard with due := { s.link.due with nak := true } } }
    (lag = 0 → s.receiver.queue.length < 32 → s.apply.state ≠ .idle →
      exec (.receiveData bytes) s = .next (State.kick { s with link := heard, receiver := queued })) ∧
    (lag = 0 → s.receiver.queue = [] → s.apply.state = .idle →
      (∀ tag, payload = .marker tag →
        exec (.receiveData bytes) s = .next (State.kick
          { s with link := { heard with due := { s.link.due with ack := true } },
                   receiver := { queue := [], expected := s.receiver.expected + 1, appliedThrough := seq, nakPending := false },
                   apply := ApplyEngine.idle,
                   counters := s.counters.set 11 (saturatingSucc s.counters[11]) })) ∧
      (recordTxns s.params.windowBase payload ≠ [] →
        exec (.receiveData bytes) s = .next (State.kick
          { s with link := heard, receiver := queued,
                   apply := { state := .applying, todo := recordTxns s.params.windowBase payload, request := true } }))) ∧
    (lag = 0 → 32 ≤ s.receiver.queue.length → exec (.receiveData bytes) s = .next gap.kick) ∧
    (1 ≤ lag → lag ≤ 32 →
      exec (.receiveData bytes) s = .next (State.kick
        { s with link := { heard with due := { s.link.due with ack := true } } })) ∧
    (33 ≤ lag → exec (.receiveData bytes) s = .next gap.kick)

/-- R103, R104, R43: an ACK whose number is outstanding at distance d removes d + 1 records and restarts or stops the retransmit timer; any
other ACK is ignored. The removal hands the records to whatever waits on them: a bound write (R15, R16), and the markers, whose results
join the results list as REACHED, the oldest dropped from a full one, with MARKER_DONE for each (R147, R149). A write in SPACE_WAIT is
tested again (R11), the free slots reach the sweep, and the occupancy is tested. -/
def Obligations.AckRemovesThroughItsNumber : Prop :=
  ∀ (s : State) (bytes : List Byte) (a : SeqNo), s.Runs → s.role = .primary → s.link.state = .up →
    checkFrame bytes = some (.ack a) →
    let d := (a - s.oldestNumber).toNat
    let heard : State := { s with link := { s.link with silence := some s.params.silenceLimit } }
    (d < s.journal.outstanding → JournalLaw s → MarkerLaw s →
      ∃ u : State, exec (.receiveAck bytes) s = .next u.kick ∧
        u.journal.records = s.journal.records.drop (d + 1) ∧
        u.sender = { next := s.sender.next, retries := 0,
                     timer := if d + 1 = s.journal.outstanding then none else some s.params.retxInterval } ∧
        u.pair.outstanding = (s.journal.records.drop (d + 1)).filterMap Record.tag? ∧
        u = { s with link := heard.link, journal := u.journal, sender := u.sender, pair := u.pair, host := u.host,
                     sweep := u.sweep, mem := { s.mem with sweepWait := u.mem.sweepWait }, alert := u.alert } ∧
        (s.host.state = .syncHold → (∃ r ∈ s.journal.records.take (d + 1), r.waiter = true ∧ r.tag? = none) →
          u.host = { HostPort.idle with answer := some .doneWrite }) ∧
        (s.host.state = .inMemory → (∃ r ∈ s.journal.records.take (d + 1), r.waiter = true ∧ r.tag? = none) →
          u.host = { s.host with bound := false }) ∧
        (s.host.state ≠ .spaceWait → (∀ r ∈ s.journal.records.take (d + 1), r.waiter = false) → u.host = s.host) ∧
        (let reached := (s.journal.records.take (d + 1)).filterMap Record.tag?
          let results := s.pair.results ++ reached.map fun tag => { tag := tag, outcome := .reached }
          u.pair = { s.pair with outstanding := (s.journal.records.drop (d + 1)).filterMap Record.tag?,
                                 results := results.drop (results.length - 8) } ∧
          u.cause .markerDone = reached.foldl (fun c _ => c.occur) (s.cause .markerDone)) ∧
        ∀ n t, s.host.state = .spaceWait → s.host.noted = some n → s.host.txn = some t →
          let needs : Prop := n.block ∈ s.map.flags → ∃ c, s.sweep.copy = some c ∧ c.block = n.block
          (¬needs → u.host = { s.host with state := .portWait, claim := false, timer := none }) ∧
          (needs → u.journal.records.length + (if s.host.claim then 1 else 0) < 256 →
            u.host = { s.host with state := .portWait, claim := true, timer := none })) ∧
    (s.journal.outstanding ≤ d → exec (.receiveAck bytes) s = .next heard)

/-- R106: a NAK is counted; one whose number is outstanding or next in line at distance d removes the records before it up to the first
MARKER record or carrying record and rewinds the rest; any other NAK is only counted. -/
def Obligations.NakRemovesAndRewinds : Prop :=
  ∀ (s : State) (bytes : List Byte) (e : SeqNo), s.Runs → s.role = .primary → s.link.state = .up →
    checkFrame bytes = some (.nak e) →
    let d := (e - s.oldestNumber).toNat
    let heard : State :=
      { s with link := { s.link with silence := some s.params.silenceLimit },
               counters := s.counters.set 2 (saturatingSucc s.counters[2]) }
    let kept (r : Record) : Bool := r.waiter || r.tag?.isSome
    let n := ((s.journal.records.take d).takeWhile fun r => !kept r).length
    (d ≤ s.journal.outstanding → JournalLaw s →
      ∃ u : State, exec (.receiveNak bytes) s = .next u.kick ∧
        u.journal.records = (s.journal.records.drop n).map (fun r => if r.state = .sent then { r with state := .resend } else r) ∧
        u.sender = { next := s.sender.next, retries := if n = 0 then s.sender.retries else 0,
                     timer := if n = s.journal.outstanding then none
                              else if n = 0 then s.sender.timer else some s.params.retxInterval } ∧
        u = { heard with journal := u.journal, sender := u.sender, host := u.host, sweep := u.sweep,
                         mem := { s.mem with sweepWait := u.mem.sweepWait }, alert := u.alert } ∧
        (s.host.state ≠ .spaceWait ∨ n = 0 → u.host = s.host) ∧
        ∀ b t, s.host.state = .spaceWait → s.host.noted = some b → s.host.txn = some t → 1 ≤ n →
          let needs : Prop := b.block ∈ s.map.flags → ∃ c, s.sweep.copy = some c ∧ c.block = b.block
          (¬needs → u.host = { s.host with state := .portWait, claim := false, timer := none }) ∧
          (needs → u.journal.records.length + (if s.host.claim then 1 else 0) < 256 →
            u.host = { s.host with state := .portWait, claim := true, timer := none })) ∧
    (s.journal.outstanding < d → exec (.receiveNak bytes) s = .next heard)

/-! ## The replica's apply engine (chapter 6) -/

/-- R125, R126, R123: a grant starts the engine's transaction; a completion requests the record's next transaction, or applies the record,
and with it the MARKER records right behind it, and takes the next one. The end of a promotion (R134) is the completion that empties the
queue. -/
def Obligations.ApplyEngineWritesItsRecords : Prop :=
  ∀ (s : State), s.Runs →
    (∀ t ts, s.apply.todo = t :: ts → s.applyGrantable = true →
      exec .applyGrant s = .next
        { s with mem := { s.mem with use := some { owner := .apply, txn := t, limit := s.params.memLimit },
                                     applyRun := s.mem.applyRun + 1 },
                 apply := { s.apply with request := false } }) ∧
    (s.applyInMemory = true → s.apply.state = .applying →
      (∀ t n ts, s.apply.todo = t :: n :: ts →
        exec .applyCompletion s = .next (State.finish
          { s with mem := { s.mem with use := none }, apply := { s.apply with todo := n :: ts, request := true } })) ∧
      (∀ t r marks rest, s.apply.todo = [t] → s.receiver.queue = r :: marks ++ rest →
        (∀ q ∈ marks, ∃ tag, q.payload = .marker tag) →
        let applied : State :=
          { s with mem := { s.mem with use := none },
                   receiver := { s.receiver with queue := rest, appliedThrough := (marks.getLast?.getD r).seq },
                   counters := s.counters.set 11 ((r :: marks).foldl (fun v _ => saturatingSucc v) s.counters[11]),
                   link := if s.link.state = .up then { s.link with due := { s.link.due with ack := true } } else s.link }
        (rest = [] →
          exec .applyCompletion s = .next (State.finish
            (if s.role = .promoting then
              { applied with apply := ApplyEngine.idle, role := .standalone, mem := MemPort.powerOn,
                             alert := (s.report .promoted).alert }
             else { applied with apply := ApplyEngine.idle }))) ∧
        (∀ q more, rest = q :: more → recordTxns s.params.windowBase q.payload ≠ [] →
          exec .applyCompletion s = .next (State.finish
            { applied with apply := { state := .applying, todo := recordTxns s.params.windowBase q.payload, request := true } }))))

/-- R127, R133, R92: an apply transaction exceeds MEM_LIMIT. The engine is in FAULT with its queue frozen, continuity is clear and the link
halts; in role Replica-promoting the queue is discarded and the promotion ends.
That a new HALT replaces the reason of one still due is the model's reading (log entry 9). -/
def Obligations.ApplyTimeoutFreezesTheQueue : Prop :=
  ∀ (s : State), s.Runs → s.applyInMemory = true → s.apply.state = .applying →
    (s.role = .replica → (s.link.state = .up ∨ s.link.state = .training) →
      ∃ u, exec .applyTimeout s = .next u ∧
        u = { s with mem := { s.mem with use := none }, apply := { state := .fault, todo := [], request := false },
                     link := u.link, alert := u.alert, pair := u.pair } ∧
        u.link.state = .halted ∧ u.link.continuity = false ∧
        u.link.haltRecord = some { reason := .applyFault, direction := .sent } ∧
        u.cause .applyFault = (s.cause .applyFault).occur ∧ u.cause .linkHalted = (s.cause .linkHalted).occur ∧
        (s.link.tx = none → u.link.tx = some (.halt .applyFault)) ∧
        (s.link.tx.isSome = true → u.link.tx = s.link.tx ∧ u.link.due.halt = some .applyFault)) ∧
    (s.role = .replica → s.link.state = .halted → s.link.tx.isSome = true →
      ∃ u, exec .applyTimeout s = .next u ∧
        u = { s with mem := { s.mem with use := none }, apply := { state := .fault, todo := [], request := false },
                     link := { s.link with continuity := false }, alert := u.alert, pair := u.pair } ∧
        u.cause .applyFault = (s.cause .applyFault).occur) ∧
    (s.role = .promoting → s.link.state = .off →
      ∃ u, exec .applyTimeout s = .next u ∧
        u = { s with role := .standalone, receiver := { s.receiver with queue := [] },
                     apply := { state := .idle, todo := [], request := false }, mem := { use := none, sweepWait := 0, applyRun := 0 },
                     link := u.link, alert := u.alert, pair := u.pair } ∧
        u.link.state = .off ∧ u.link.haltRecord = s.link.haltRecord ∧ u.link.continuity = false ∧
        u.cause .applyFault = (s.cause .applyFault).occur ∧ u.cause .promoted = (s.cause .promoted).occur)

/-! ## The management port (chapters 7 to 9) -/

/-- R160, Table 10.4: STATUS answers its snapshot and changes nothing else. The pair state it reports, which the pair's law gives, is
ALONE on a Standalone part and never on a primary. -/
def Obligations.StatusReportsTheSnapshot : Prop :=
  ∀ s : State, s.Takes 0x01 [] →
    let primary := s.role = .primary
    let replica := s.role = .replica ∨ s.role = .promoting
    (PairLaw s → (primary → s.pair.state ≠ .alone) ∧ (s.role = .standalone → s.pair.state = .alone)) ∧
    exec .status s = .next (s.replied 0x01 [] .ok
      (([match s.role with | .standalone => 0x00 | .primary => 0x01 | .replica => 0x02 | .promoting => 0x03,
        if replica then 0x04 else match s.pair.state with
          | .alone => 0x00 | .degraded => 0x01 | .repairing => 0x02 | .mirrored => 0x03,
        if s.role = .standalone then 0x00 else match s.link.state with
          | .off => 0x00 | .training => 0x01 | .up => 0x02 | .halted => 0x03,
        if primary then (match s.sweep.state with
          | .idle => 0x00 | .scanning => 0x01 | .copying => 0x02 | .waiting => 0x03 | .stopped => 0x04) else 0x00,
        if replica then (match s.apply.state with | .idle => 0x00 | .applying => 0x01 | .fault => 0x02) else 0x00] : List Byte) ++
       bytes16 (BitVec.ofNat 16
         (if primary then s.journal.records.length else if replica then s.receiver.queue.length else 0)) ++
       bytes24 (BitVec.ofNat 24 (if primary then s.map.count else 0)) ++
       ([if primary then BitVec.ofNat 8 s.pair.outstanding.length else 0x00,
        (if s.link.continuity then 0x01 else 0x00) +
          (if (List.finRange 15).any fun i => s.alert.causes[i].state == .raised then 0x02 else 0x00)] : List Byte) ++
       bytes16 (if primary then s.link.lastSession else s.link.lastServed) ++
       ([match s.link.haltRecord with
          | none => 0x00
          | some r => match r.reason with
            | .retryExhausted => 0x01 | .applyFault => 0x02 | .promoted => 0x03 | .roleChange => 0x04,
        match s.link.haltRecord with
          | none => 0x00
          | some r => match r.direction with | .sent => 0x01 | .received => 0x02] : List Byte)))

/-- R161, R162, Table 10.1: reading and writing a region entry. The match pattern is stored with every bit clear where the care pattern
is 0. -/
def Obligations.RegionCommandsReadAndWriteEntries : Prop :=
  ∀ s : State,
    (∀ i : Fin 16, s.Takes 0x10 [BitVec.ofNat 8 i.val] →
      exec (.readRegion (BitVec.ofNat 8 i.val)) s = .next (s.replied 0x10 [BitVec.ofNat 8 i.val] .ok
      ([flagCode s.regions[i].valid, s.regions[i].mode.code, s.regions[i].policy.code] ++ bytes16 s.regions[i].pattern ++
        bytes16 s.regions[i].care))) ∧
    (∀ i : Fin 16, exec (.readRegion (BitVec.ofNat 8 i.val)) State.reset =
      .next (State.reset.replied 0x10 [BitVec.ofNat 8 i.val] .ok [0x00, 0x00, 0x00, 0x00, 0x00, 0x00, 0x00])) ∧
    (∀ index : Byte, s.Takes 0x10 [index] → 15 < index.toNat → exec (.readRegion index) s = .next (s.replied 0x10 [index] .badArg [])) ∧
    ∀ (index valid mode policy : Byte) (pattern care : BitVec 16),
      let args := [index, valid, mode, policy] ++ bytes16 pattern ++ bytes16 care
      let wrong : Prop := 15 < index.toNat ∨ 1 < valid.toNat ∨ 2 < mode.toNat ∨ 1 < policy.toNat
      s.Takes 0x11 args →
      (wrong → exec (.writeRegion index valid mode policy pattern care) s = .next (s.replied 0x11 args .badArg [])) ∧
      (¬wrong → s.role ≠ .standalone →
        exec (.writeRegion index valid mode policy pattern care) s = .next (s.replied 0x11 args .badState [])) ∧
      (¬wrong → s.role = .standalone →
        exec (.writeRegion index valid mode policy pattern care) s = .next (State.replied
          { s with regions := s.regions.setIfInBounds index.toNat
                     { valid := valid == 0x01,
                       mode := if mode = 0x00 then .off else if mode = 0x01 then .async else .sync,
                       policy := if policy = 0x00 then .stall else .mark,
                       pattern := pattern &&& care, care := care } } 0x11 args .ok []))

/-- R163, R164, R47, R59, Tables 8.4 and 10.5: the parameters' identifiers and ranges, and reading and writing a parameter. The conditions
of R164 decide the result in order; an accepted value reads back, and what the water marks and AUTO_REPAIR do in the command event
follows (`waterTest`, `autoStart`). -/
def Obligations.ParameterCommandsReadAndWrite : Prop :=
  (∀ ident p, Param.ofId ident = some p ↔ (ident, p) ∈ ([(0x00, .windowBase), (0x01, .pairId), (0x02, .windowSize), (0x03, .memLimit),
    (0x04, .holdLimit), (0x05, .retxInterval), (0x06, .retryLimit), (0x07, .silenceLimit), (0x08, .journalReserve), (0x09, .highWater),
    (0x0A, .lowWater), (0x0B, .sweepShare), (0x0C, .applyBurst), (0x0D, .autoRepair)] : List (Byte × Param))) ∧
  (∀ v, Param.windowBase.inRange v = true ↔ v.extractLsb' 0 28 = 0) ∧
  (∀ range ∈ ([(.pairId, 0, 65535), (.windowSize, 1, 32), (.memLimit, 1, 255), (.holdLimit, 10, 10000), (.retxInterval, 50, 20000),
      (.retryLimit, 1, 15), (.silenceLimit, 1, 100), (.journalReserve, 8, 128), (.highWater, 64, 255), (.lowWater, 0, 254),
      (.sweepShare, 1, 16), (.applyBurst, 1, 8), (.autoRepair, 0, 1)] : List (Param × Nat × Nat)),
    ∀ v : BitVec 32, range.1.inRange v = true ↔ range.2.1 ≤ v.toNat ∧ v.toNat ≤ range.2.2) ∧
  ∀ (s : State) (ident : Byte),
    (13 < ident.toNat →
      (s.Takes 0x18 [ident] → exec (.readParam ident) s = .next (s.replied 0x18 [ident] .badArg [])) ∧
      ∀ v, s.Takes 0x19 (ident :: bytes32 v) → exec (.writeParam ident v) s = .next (s.replied 0x19 (ident :: bytes32 v) .badArg [])) ∧
    ∀ p, Param.ofId ident = some p →
      (s.Takes 0x18 [ident] → exec (.readParam ident) s = .next (s.replied 0x18 [ident] .ok (bytes32 (s.params.get p)))) ∧
      ∀ v : BitVec 32, s.Takes 0x19 (ident :: bytes32 v) →
        let args := ident :: bytes32 v
        let allowed : Prop := (p = .windowBase ∨ p = .pairId → s.role = .standalone) ∧ (p = .windowSize → s.link.state ≠ .up)
        (p.inRange v = false → exec (.writeParam ident v) s = .next (s.replied 0x19 args .badArg [])) ∧
        (p.inRange v = true → (p = .highWater ∧ v.toNat ≤ s.params.lowWater ∨ p = .lowWater ∧ s.params.highWater ≤ v.toNat) →
          exec (.writeParam ident v) s = .next (s.replied 0x19 args .badArg [])) ∧
        (p.inRange v = true → ¬allowed → exec (.writeParam ident v) s = .next (s.replied 0x19 args .badState [])) ∧
        (p.inRange v = true → (p = .highWater → s.params.lowWater < v.toNat) → (p = .lowWater → v.toNat < s.params.highWater) →
          allowed →
          let stored : State := { s with params := s.params.put p v }
          (s.params.put p v).get p = v ∧
          (∀ q, q ≠ p → (s.params.put p v).get q = s.params.get q) ∧
          (p ≠ .highWater → p ≠ .lowWater → p ≠ .autoRepair →
            exec (.writeParam ident v) s = .next (stored.replied 0x19 args .ok [])) ∧
          (p = .highWater ∨ p = .lowWater →
            exec (.writeParam ident v) s = .next (stored.waterTest.replied 0x19 args .ok [])) ∧
          (p = .autoRepair → v = 0 → exec (.writeParam ident v) s = .next (stored.replied 0x19 args .ok [])) ∧
          (p = .autoRepair → v = 1 →
            exec (.writeParam ident v) s = .next (State.replied (State.derivePair
              (if s.role = .primary ∧ s.link.state = .up ∧ s.sweep.state = .idle ∧ 1 ≤ s.map.count then
                 { stored with sweep := { s.sweep with state := .scanning } }
               else stored)) 0x19 args .ok [])))

/-- R137 to R140, R96, R21, R54: SET ROLE by Table 7.1. A refusal, or a target that is the present role, changes nothing. -/
def Obligations.SetRoleFollowsItsTable : Prop :=
  ∀ (s : State) (target : Byte), s.Takes 0x20 [target] →
    let stays (r : ResultCode) : Prop := exec (.setRole target) s = .next (s.replied 0x20 [target] r [])
    (2 < target.toNat → stays .badArg) ∧
    (s.role = .standalone ∧ target = 0x00 ∨ s.role = .primary ∧ target = 0x01 ∨ s.role = .replica ∧ target = 0x02 → stays .ok) ∧
    (s.role = .primary ∧ target = 0x02 ∨ s.role = .replica ∧ target.toNat < 2 ∨ s.role = .promoting ∧ target.toNat ≤ 2 →
      stays .badState) ∧
    (s.role = .standalone → target = 0x02 → (∃ t ∈ s.hostUse, s.touchedMirrored t ≠ []) → stays .busy) ∧
    (s.role = .standalone → target = 0x02 → (∀ t ∈ s.hostUse, s.touchedMirrored t = []) →
      ∃ u, exec (.setRole target) s = .next (State.replied u 0x20 [target] .ok []) ∧
        u = { s with role := .replica, mem := { s.mem with sweepWait := 0, applyRun := 0 }, link := u.link, pair := u.pair,
                     alert := u.alert } ∧
        u.link.state = .training ∧ u.link.repeatRun = true ∧ u.link.conflictReported = false ∧
        u.link.lastServed = s.link.lastServed ∧ u.link.continuity = s.link.continuity ∧ u.pair.state = .alone) ∧
    (s.role = .standalone → target = 0x01 →
      ∃ u, exec (.setRole target) s = .next (State.replied u 0x20 [target] .ok []) ∧
        u = { s with role := .primary, mem := { s.mem with sweepWait := 0, applyRun := 0 },
                     map := { flags := mirroredBlocks s.regions, count := (mirroredBlocks s.regions).length, cursor := 0 },
                     link := u.link, pair := u.pair, alert := u.alert } ∧
        u.link.state = .training ∧ u.link.phase = .hello ∧ u.link.repeatRun = true ∧ u.link.conflictReported = false ∧
        u.link.lastSession = s.link.lastSession ∧ u.pair.state = .degraded) ∧
    (s.role = .primary → target = 0x00 →
      ∃ u, exec (.setRole target) s = .next (State.replied u 0x20 [target] .ok []) ∧
        u = { s with role := .standalone, link := u.link, journal := u.journal, map := u.map, sweep := u.sweep, sender := u.sender,
                     mem := u.mem, host := u.host, pair := u.pair, alert := u.alert } ∧
        u.link.state = .off ∧ u.link.lastSession = 0 ∧ u.link.repeatRun = false ∧
        u.link.keepaliveRun = false ∧ u.link.silence = none ∧
        u.journal = { records := [], armed := true } ∧ u.map = { flags := [], count := 0, cursor := 0 } ∧
        u.sweep = { state := .idle, copy := none, request := false, read := none, stopPending := false, timeouts := 0 } ∧
        u.sender = { next := 0, retries := 0, timer := none } ∧
        u.mem.sweepWait = 0 ∧ u.mem.applyRun = 0 ∧
        (s.mem.use = none → u.mem.use = none) ∧
        (∀ p, s.mem.use = some p → u.mem.use = if p.owner = .sweep then none else some p) ∧
        u.pair.outstanding = [] ∧ u.pair.state = .alone ∧
        (s.host.state = .syncHold → s.link.state = .up → u.host = { HostPort.idle with answer := some .doneWrite }) ∧
        (s.host.state = .idle → u.host = s.host) ∧
        (s.host.state = .spaceWait → u.host = { s.host with state := .portWait, claim := false, timer := none }) ∧
        (s.host.state = .portWait → u.host = { s.host with claim := false }) ∧
        (s.host.state = .inMemory → u.host = { s.host with bound := false }) ∧
        (s.link.state = .up → u.link.haltRecord = some { reason := .roleChange, direction := .sent } ∧
          (s.link.tx = none → u.link.tx = some (.halt .roleChange)) ∧
          (s.link.tx.isSome = true → u.link.tx = s.link.tx ∧ u.link.due.halt = some .roleChange)) ∧
        (s.link.state ≠ .up → u.link.haltRecord = s.link.haltRecord))

/-- R66, R67: START REPAIR and STOP REPAIR by the sweep's state. Pair Control derives the pair state from the sweep state that results. -/
def Obligations.RepairCommandsActByTheSweepsState : Prop :=
  ∀ s : State,
    let w := s.sweep
    let started (dest : Sweep) : Prop :=
      exec .startRepair s = .next (State.replied (State.derivePair { s with sweep := dest }) 0x21 [] .ok [])
    let stopped (dest : Sweep) : Prop :=
      exec .stopRepair s = .next (State.replied (State.derivePair { s with sweep := dest }) 0x22 [] .ok [])
    (s.Takes 0x21 [] →
    (s.role ≠ .primary ∨ s.link.state ≠ .up → exec .startRepair s = .next (s.replied 0x21 [] .badState [])) ∧
    (s.role = .primary → s.link.state = .up →
      (w.state = .idle ∨ w.state = .stopped →
        started { w with state := if s.map.count = 0 then .idle else .scanning, timeouts := 0 }) ∧
      (w.state = .scanning ∨ w.state = .waiting → started { w with timeouts := 0 }) ∧
      (w.state = .copying → started { w with stopPending := false, timeouts := 0 }))) ∧
    (s.Takes 0x22 [] →
    (s.role ≠ .primary → exec .stopRepair s = .next (s.replied 0x22 [] .badState [])) ∧
    (s.role = .primary →
      (w.state = .idle ∨ w.state = .scanning → stopped { w with state := .stopped }) ∧
      (w.state = .stopped → stopped w) ∧
      (w.state = .copying → w.request = false → stopped { w with stopPending := true }) ∧
      (∀ c, w.state = .waiting ∧ w.request = false ∨ w.state = .copying ∧ w.request = true → w.copy = some c →
        ∃ u, exec .stopRepair s = .next (State.replied u 0x22 [] .ok []) ∧
          u = { s with
            sweep := { w with state := .stopped, copy := none, request := false, stopPending := false },
            map := s.map.set c.block, mem := { s.mem with sweepWait := if w.request then 0 else s.mem.sweepWait },
            host := u.host, pair := u.pair, alert := u.alert } ∧
          u.pair.state = u.derivedPair ∧ (s.host.state ≠ .spaceWait → u.host = s.host))))

/-- R146, R40, R150: PLACE MARKER's conditions in order, and the marker placed: the lower free-slot count is announced to the sweep
(`sweepFall`, R48), the occupancy is tested (`waterTest`, R46), and the marker may be sent at once (`kick`, R100). READ MARKERS returns both
lists and empties the results list. -/
def Obligations.MarkerCommandsPlaceAndRead : Prop :=
  ∀ (s : State) (tag : Tag),
    let refused (r : ResultCode) : Prop := exec (.placeMarker tag) s = .next (s.replied 0x23 (bytes16 tag) r [])
    (s.Takes 0x23 (bytes16 tag) →
    (s.role ≠ .primary → refused .badState) ∧
    (s.role = .primary → s.pair.state ≠ .mirrored → refused .badState) ∧
    (s.role = .primary → s.pair.state = .mirrored → 8 ≤ s.pair.outstanding.length → refused .busy) ∧
    (s.role = .primary → s.pair.state = .mirrored → s.pair.outstanding.length < 8 → s.freeSlots = 0 → refused .busy) ∧
    (s.role = .primary → s.pair.state = .mirrored → s.pair.outstanding.length < 8 → 1 ≤ s.freeSlots →
      let placed : State :=
        { s with journal := { s.journal with records := s.journal.records ++
                   [{ body := .marker tag, state := .queued, seq := none, waiter := false }] },
                 pair := { s.pair with outstanding := s.pair.outstanding ++ [tag] } }
      exec (.placeMarker tag) s = .next (State.replied placed.sweepFall.waterTest.kick 0x23 (bytes16 tag) .ok []))) ∧
    (s.Takes 0x24 [] → exec .readMarkers s = .next (State.replied { s with pair := { s.pair with results := [] } } 0x24 [] .ok
      ([BitVec.ofNat 8 s.pair.outstanding.length] ++ s.pair.outstanding.flatMap bytes16 ++
       [BitVec.ofNat 8 s.pair.results.length] ++
       s.pair.results.flatMap fun e => bytes16 e.tag ++ ([match e.outcome with | .reached => 0x01 | .failed => 0x02] : List Byte))))

/-- R95, R132, R96, R129: RELINK, PROMOTE and CLEAR FAULT, each refused with BADSTATE outside its state. -/
def Obligations.RelinkPromoteAndClearFault : Prop :=
  ∀ s : State,
    (s.Takes 0x28 [] →
    (s.link.state ≠ .halted → exec .relink s = .next (s.replied 0x28 [] .badState [])) ∧
    (s.link.state = .halted →
      ∃ u, exec .relink s = .next (State.replied u 0x28 [] .ok []) ∧
        u = { s with link := u.link, pair := u.pair, alert := u.alert } ∧ u.link.state = .training ∧ u.link.phase = .hello ∧
        u.link.conflictReported = false ∧ u.link.repeatRun = true ∧ u.link.lastSession = s.link.lastSession ∧
        u.link.lastServed = s.link.lastServed ∧ u.link.continuity = s.link.continuity ∧ u.link.haltRecord = s.link.haltRecord ∧
        u.pair.state = u.derivedPair ∧
        (∀ r, s.link.tx = none → s.link.due.halt = some r → u.link.tx = some (.halt r) ∧ u.link.due.hello = true) ∧
        (s.link.tx.isSome = true → u.link.tx = s.link.tx ∧ u.link.due.halt = s.link.due.halt ∧ u.link.due.hello = true))) ∧
    (s.Takes 0x29 [] →
    (s.role ≠ .replica → exec .promote s = .next (s.replied 0x29 [] .badState [])) ∧
    (s.role = .replica →
      ∃ u, exec .promote s = .next (State.replied u 0x29 [] .ok []) ∧
        u = { s with role := u.role, link := u.link, receiver := { s.receiver with queue := u.receiver.queue }, apply := u.apply,
                     mem := u.mem, alert := u.alert, pair := u.pair } ∧
        u.link.state = .off ∧ u.link.continuity = false ∧ u.link.lastServed = s.link.lastServed ∧ u.link.silence = none ∧
        u.link.repeatRun = false ∧ u.link.keepaliveRun = false ∧
        (s.link.state = .up → u.link.haltRecord = some { reason := .promoted, direction := .sent } ∧
          (s.link.tx = none → u.link.tx = some (.halt .promoted))) ∧
        (s.link.state ≠ .up → u.link.haltRecord = s.link.haltRecord) ∧
        (s.receiver.queue ≠ [] → s.apply.state ≠ .fault →
          u.role = .promoting ∧ u.receiver = s.receiver ∧ u.apply = s.apply ∧ u.mem = s.mem) ∧
        (s.receiver.queue = [] ∨ s.apply.state = .fault →
          u.role = .standalone ∧ u.receiver.queue = [] ∧ u.mem = { s.mem with sweepWait := 0, applyRun := 0 } ∧
            u.cause .promoted = (s.cause .promoted).occur))) ∧
    (s.Takes 0x2A [] →
    (s.apply.state ≠ .fault → exec .clearFault s = .next (s.replied 0x2A [] .badState [])) ∧
    (s.apply.state = .fault →
      exec .clearFault s = .next (State.replied
        { s with receiver := { s.receiver with queue := [] }, apply := { state := .idle, todo := [], request := false } }
        0x2A [] .ok [])))

/-- R172 to R175, R167: the alert commands. READ ALERTS returns the RAISED causes in ascending number and makes them REPORTED; ACK ALERTS
clears the REPORTED causes its mask names; SET ALERT ENABLES stores its mask; and the line follows each. -/
def Obligations.AlertCommandsMoveCausesAndLine : Prop :=
  ∀ (s : State) (mask : BitVec 16),
    let line (causes : Vector Cause 15) (enables : BitVec 15) : Bool :=
      (List.finRange 15).any fun i => enables.getLsbD i.val && causes[i].state == .raised
    let raised := (List.finRange 15).filter fun i => s.alert.causes[i].state == .raised
    (s.Takes 0x30 [] → ∃ u, exec .readAlerts s = .next (State.replied { s with alert := u } 0x30 [] .ok
        (BitVec.ofNat 8 raised.length :: raised.flatMap fun i => [BitVec.ofNat 8 i.val, s.alert.causes[i].count])) ∧
      u.enables = s.alert.enables ∧ u.line = false ∧
      ∀ i : Fin 15, u.causes[i] =
        if s.alert.causes[i].state = .raised then { s.alert.causes[i] with state := .reported } else s.alert.causes[i]) ∧
    (mask.getLsbD 15 = true →
      (s.Takes 0x31 (bytes16 mask) → exec (.ackAlerts mask) s = .next (s.replied 0x31 (bytes16 mask) .badArg [])) ∧
      (s.Takes 0x32 (bytes16 mask) → exec (.setAlertEnables mask) s = .next (s.replied 0x32 (bytes16 mask) .badArg []))) ∧
    (mask.getLsbD 15 = false →
      (s.Takes 0x31 (bytes16 mask) → ∃ u,
        exec (.ackAlerts mask) s = .next (State.replied { s with alert := u } 0x31 (bytes16 mask) .ok []) ∧
        u.enables = s.alert.enables ∧ u.line = line s.alert.causes s.alert.enables ∧
        ∀ i : Fin 15, u.causes[i] =
          if mask.getLsbD i.val = true ∧ s.alert.causes[i].state = .reported then { state := .clear, count := 0 }
          else s.alert.causes[i]) ∧
      (s.Takes 0x32 (bytes16 mask) → ∃ u,
        exec (.setAlertEnables mask) s = .next (State.replied { s with alert := u } 0x32 (bytes16 mask) .ok []) ∧
        u.causes = s.alert.causes ∧ (∀ i : Fin 15, u.enables.getLsbD i.val = mask.getLsbD i.val) ∧
        u.line = line s.alert.causes u.enables))

/-- R166, R177: READ COUNTERS returns the selected values in ascending index and, with the clear option, sets those and no others to 0. -/
def Obligations.ReadCountersReturnsAndClears : Prop :=
  ∀ (s : State) (first number clear : Byte), s.Takes 0x38 [first, number, clear] →
    let good : Prop := first.toNat ≤ 11 ∧ 1 ≤ number.toNat ∧ number.toNat ≤ 12 ∧ first.toNat + number.toNat ≤ 12 ∧
      (clear = 0x00 ∨ clear = 0x01)
    ([Counter.recordsSent, .recordsResent, .naksReceived, .framesDiscarded, .overflowMarks, .stallTimeouts, .syncTimeouts,
      .memoryTimeouts, .fenceRefusals, .alignRefusals, .sweepBlocksCopied, .recordsApplied].map s.counter = s.counters.toList) ∧
    (¬good → exec (.readCounters first number clear) s = .next (s.replied 0x38 [first, number, clear] .badArg [])) ∧
    (good → ∃ cs, exec (.readCounters first number clear) s = .next (State.replied { s with counters := cs } 0x38
        [first, number, clear] .ok
        (number :: ((List.finRange 12).filter fun i => first.toNat ≤ i.val && i.val < first.toNat + number.toNat).flatMap
          fun i => bytes32 s.counters[i])) ∧
      ∀ i : Fin 12, cs[i] =
        if clear = 0x01 ∧ first.toNat ≤ i.val ∧ i.val < first.toNat + number.toNat then 0 else s.counters[i])

/-- R168, R25, R21: RESET PART returns every block to its power-on values but for the region table, the parameters, the host port, which acts
by its state, a host transaction in memory, and the frame that carries the command.That the line's running disparities run on while the bytes
gathered are dropped is the model's reading (log entry 27), and line fill, a free number of FILL symbols from one up, stands before the next
frame (log entry 28). -/
def Obligations.ResetPartIsASoftReset : Prop :=
  ∀ s : State, s.Takes 0x3F [] →
    ∃ h use, exec .resetPart s = .next (State.replied
        { State.reset with pending := s.pending, lines := s.lines, freeIndex := s.freeIndex + 1, regions := s.regions, params := s.params,
                           host := h, mem := { use := use, sweepWait := 0, applyRun := 0 },
                           wire := { txDisparity := s.wire.txDisparity, fillDue := Config.moreFill s.freeIndex + 1, sent := 0,
                                     rxDisparity := s.wire.rxDisparity, gathered := none } } 0x3F [] .ok []) ∧
      (s.host.state = .idle → h = s.host) ∧
      (s.host.state = .spaceWait → h = { s.host with state := .portWait, claim := false, timer := none }) ∧
      (s.host.state = .portWait → h = { s.host with claim := false }) ∧
      (s.host.state = .inMemory → h = { s.host with bound := false }) ∧
      (s.host.state = .syncHold → h = { HostPort.idle with answer := some .doneWrite }) ∧
      (s.mem.use = none → use = none) ∧
      ∀ p, s.mem.use = some p → use = if p.owner = .sweep ∨ p.owner = .apply then none else some p

/-- R152 to R156, R179, Table 10.1: frames at the management port, on its lines and as whole commands. A fall of MSEL begins a frame; each
rise of MCLK samples a bit, most significant first, and the eighth makes a byte arrive; each fall changes MDO to the next bit of the byte
out. The first byte is the command byte, the arguments follow by its count, and at the last byte the command that Table 10.1 gives is taken;
an unknown command byte is taken at once, answered UNKNOWN, and acts on no block. Two turnaround bytes, the result, the response and the
fill go out. A rise of MSEL before the taking leaves no trace of the frame, and after it undoes nothing.
A command of the table may come as a whole frame of its own, and one that comes inside another's frame is fill, by the model's reading
(log entries 10 and 11). -/
def Obligations.ManagementFramesBeginAndEnd : Prop :=
  ((∀ code, commandArgs code = none → managementCommand code [] = some (.unknownCommand code)) ∧
    managementCommand 0x01 [] = some .status ∧
    (∀ i, managementCommand 0x10 [i] = some (.readRegion i)) ∧
    (∀ i v m p pattern care,
      managementCommand 0x11 ([i, v, m, p] ++ bytes16 pattern ++ bytes16 care) = some (.writeRegion i v m p pattern care)) ∧
    (∀ i, managementCommand 0x18 [i] = some (.readParam i)) ∧
    (∀ i v, managementCommand 0x19 (i :: bytes32 v) = some (.writeParam i v)) ∧
    (∀ r, managementCommand 0x20 [r] = some (.setRole r)) ∧
    managementCommand 0x21 [] = some .startRepair ∧ managementCommand 0x22 [] = some .stopRepair ∧
    (∀ tag, managementCommand 0x23 (bytes16 tag) = some (.placeMarker tag)) ∧
    managementCommand 0x24 [] = some .readMarkers ∧ managementCommand 0x28 [] = some .relink ∧
    managementCommand 0x29 [] = some .promote ∧ managementCommand 0x2A [] = some .clearFault ∧
    managementCommand 0x30 [] = some .readAlerts ∧
    (∀ mask, managementCommand 0x31 (bytes16 mask) = some (.ackAlerts mask)) ∧
    (∀ mask, managementCommand 0x32 (bytes16 mask) = some (.setAlertEnables mask)) ∧
    (∀ f n c, managementCommand 0x38 [f, n, c] = some (.readCounters f n c)) ∧
    managementCommand 0x3F [] = some .resetPart ∧
    ∀ code args c, managementCommand code args = some c → args.length = (commandArgs code).getD 0) ∧
  (∀ (s : State) (code : Byte) (args : List Byte) (r : ResultCode) (response : List Byte) (k : Nat),
    (Nat.repeat Mgmt.bytePassed k (s.replied code args r response).mgmt).byteOut =
      some (([0xFF, 0xFF, r.code] ++ response).getD k 0xFF)) ∧
  (∀ b : Byte, byteOfBits ((List.range 8).map b.getMsbD) = b) ∧
  ∀ (s : State), s.Runs →
    (∀ code : Byte, commandArgs code = none →
      (s.mgmt.awaits code [] = true → exec (.unknownCommand code) s = .next (s.replied code [] .unknown [])) ∧
      (s.mgmt.awaits code [] = false → exec (.unknownCommand code) s = .next s)) ∧
    (∀ bytes, s.mgmt.phase = .deselected → exec (.shortFrame bytes) s = .next s) ∧
    (∀ bytes, s.mgmt.phase = .waitingForRise ∨ s.mgmt.phase = .command ∨ s.mgmt.phase = .arguments →
      exec (.shortFrame bytes) s = .next { s with mgmt := Mgmt.deselected } ∧
      s.lineEvent .mselRise = .next { s with mgmt := Mgmt.deselected }) ∧
    (s.mgmt.phase = .turnaround ∨ s.mgmt.phase = .result ∨ s.mgmt.phase = .response ∨ s.mgmt.phase = .fill →
      exec .frameEnd s = .next { s with mgmt := Mgmt.deselected } ∧
      s.lineEvent .mselRise = .next { s with mgmt := Mgmt.deselected }) ∧
    (s.mgmt.phase = .waitingForRise → exec .frameEnd s = .next { s with mgmt := Mgmt.deselected }) ∧
    (s.mgmt.phase = .deselected →
      s.lineEvent .mselFall = .next
        { s with mgmt := { phase := .command, command := none, args := [], result := none, response := [], bits := [], passed := 0,
                           mdo := .high } }) ∧
    (s.mgmt.phase = .deselected ∨ s.mgmt.phase = .waitingForRise →
      s.mgmt.byteOut = none ∧ s.lineEvent .mclkFall = .next s ∧ ∀ mdi, s.lineEvent (.mclkRise mdi) = .next s) ∧
    ∀ shown : Byte, s.mgmt.byteOut = some shown →
      s.lineEvent .mclkFall = .next
        { s with mgmt := { s.mgmt with mdo := (if shown.getMsbD s.mgmt.bits.length then .high else .low) } } ∧
      (∀ mdi, s.mgmt.bits.length < 7 →
        s.lineEvent (.mclkRise mdi) = .next { s with mgmt := { s.mgmt with bits := s.mgmt.bits ++ [mdi] } }) ∧
      ∀ (mdi : Bool) (b : Byte), s.mgmt.bits.length = 7 → byteOfBits (s.mgmt.bits ++ [mdi]) = b →
        let kept (args : List Byte) (command : Byte) (phase : MgmtPhase) : State :=
          { s with mgmt := { s.mgmt with phase := phase, command := some command, args := args, bits := [] } }
        (∀ n, s.mgmt.phase = .command → commandArgs b = some (n + 1) →
          s.lineEvent (.mclkRise mdi) = .next (kept [] b .arguments)) ∧
        (∀ c, s.mgmt.phase = .command → managementCommand b [] = some c →
          s.lineEvent (.mclkRise mdi) = exec c (kept [] b .command) ∧ (kept [] b .command).Takes b []) ∧
        (∀ code n, s.mgmt.phase = .arguments → s.mgmt.command = some code → commandArgs code = some n →
          (s.mgmt.args.length + 1 < n →
            s.lineEvent (.mclkRise mdi) = .next (kept (s.mgmt.args ++ [b]) code .arguments)) ∧
          ∀ c, managementCommand code (s.mgmt.args ++ [b]) = some c →
            s.lineEvent (.mclkRise mdi) = exec c (kept (s.mgmt.args ++ [b]) code .arguments) ∧
            (kept (s.mgmt.args ++ [b]) code .arguments).Takes code (s.mgmt.args ++ [b])) ∧
        (s.mgmt.phase = .turnaround ∨ s.mgmt.phase = .result ∨ s.mgmt.phase = .response ∨ s.mgmt.phase = .fill →
          s.lineEvent (.mclkRise mdi) = .next { s with mgmt := s.mgmt.bytePassed })

/-- R26, R159, R182: a power-on reset returns every block to its power-on values and holds the part until the release; a low level on RESET of
1 µs or more is one, and a shorter one resets the part in whole or not at all, whatever the free value says. While the part is held, ALERT
and MDO are not driven and FILL is sent.
The operands, the free value and the held state are the model's forms (log entries 3 and 19). That no command but a reset or the release, and
no line event but a symbol time, acts on a held part is the model's choice beyond R182's words (log entry 5), received symbols and the
running disparities' restart among it (log entries 26 and 27); and how much line fill is owed after it is a free value (log entry 28). -/
def Obligations.PowerOnResetInWholeOrNotAtAll : Prop :=
  ∀ (s : State) (lowNs : Nat) (mselLow : Bool),
    let held (n : Nat) : State :=
      { State.reset with pending := s.pending, lines := s.lines, freeIndex := n + 1, inReset := true,
                         wire := { txDisparity := .negative, fillDue := Config.moreFill n + 1, sent := 0, rxDisparity := .negative,
                                   gathered := none } }
    (∀ n, (held n).host = { state := .idle, txn := none, noted := none, claim := false, bound := false, timer := none, answer := none } ∧
      (held n).mem = { use := none, sweepWait := 0, applyRun := 0 } ∧ (held n).params.windowBase = 0x00000000 ∧
      ∀ i : Fin 16, (held n).regions[i] = { valid := false, mode := .off, policy := .stall, pattern := 0x0000, care := 0x0000 }) ∧
    exec (.powerOnReset .powerUp) s = .next (held s.freeIndex) ∧
    (1000 ≤ lowNs → exec (.powerOnReset (.resetPin lowNs)) s = .next (held s.freeIndex)) ∧
    (lowNs < 1000 →
      exec (.powerOnReset (.resetPin lowNs)) s = .next (held (s.freeIndex + 1)) ∨
      exec (.powerOnReset (.resetPin lowNs)) s = .next { s with freeIndex := s.freeIndex + 1 }) ∧
    (s.inReset = true →
      exec (.resetRelease mselLow) s = .next
        { s with inReset := false,
                 mgmt := { phase := if mselLow then .waitingForRise else .deselected, command := none, args := [], result := none,
                           response := [], bits := [], passed := 0, mdo := .undriven } } ∧
      s.alertPin = .undriven ∧ s.mdoPin = .undriven ∧ s.lineOut = symbolCode s.wire.txDisparity .fill ∧
      (∀ e, e ≠ .symbolOut → s.lineEvent e = .next s) ∧
      s.lineEvent .symbolOut =
        .next { s with wire := { s.wire with txDisparity := disparityAfterCode s.wire.txDisparity s.lineOut,
                                             fillDue := s.wire.fillDue - 1 } } ∧
      (∀ c, (∀ cause, c ≠ .powerOnReset cause) → (∀ m, c ≠ .resetRelease m) → exec c s = .next s))
end

