-- ==== Sys2Proof/Laws/State.lean ====
section
/-! SUPPORT. One lemma for each field and each plain update of the state: an update leaves a field it does not
name as it was, and gives a field it names its value. -/

namespace Sys2Proof.Machine

open Sys2Proof

variable (s : State)

/-! `State.bump` -/

@[simp] theorem State.bump_pending (c : Counter) : (s.bump c).pending = s.pending := rfl
@[simp] theorem State.bump_freeIndex (c : Counter) : (s.bump c).freeIndex = s.freeIndex := rfl
@[simp] theorem State.bump_inReset (c : Counter) : (s.bump c).inReset = s.inReset := rfl
@[simp] theorem State.bump_lines (c : Counter) : (s.bump c).lines = s.lines := rfl
@[simp] theorem State.bump_wire (c : Counter) : (s.bump c).wire = s.wire := rfl
@[simp] theorem State.bump_role (c : Counter) : (s.bump c).role = s.role := rfl
@[simp] theorem State.bump_regions (c : Counter) : (s.bump c).regions = s.regions := rfl
@[simp] theorem State.bump_params (c : Counter) : (s.bump c).params = s.params := rfl
@[simp] theorem State.bump_host (c : Counter) : (s.bump c).host = s.host := rfl
@[simp] theorem State.bump_mem (c : Counter) : (s.bump c).mem = s.mem := rfl
@[simp] theorem State.bump_journal (c : Counter) : (s.bump c).journal = s.journal := rfl
@[simp] theorem State.bump_map (c : Counter) : (s.bump c).map = s.map := rfl
@[simp] theorem State.bump_sweep (c : Counter) : (s.bump c).sweep = s.sweep := rfl
@[simp] theorem State.bump_link (c : Counter) : (s.bump c).link = s.link := rfl
@[simp] theorem State.bump_sender (c : Counter) : (s.bump c).sender = s.sender := rfl
@[simp] theorem State.bump_receiver (c : Counter) : (s.bump c).receiver = s.receiver := rfl
@[simp] theorem State.bump_apply (c : Counter) : (s.bump c).apply = s.apply := rfl
@[simp] theorem State.bump_pair (c : Counter) : (s.bump c).pair = s.pair := rfl
@[simp] theorem State.bump_mgmt (c : Counter) : (s.bump c).mgmt = s.mgmt := rfl
@[simp] theorem State.bump_alert (c : Counter) : (s.bump c).alert = s.alert := rfl

/-! `State.report` -/

@[simp] theorem State.report_pending (c : AlertCause) : (s.report c).pending = s.pending := rfl
@[simp] theorem State.report_freeIndex (c : AlertCause) : (s.report c).freeIndex = s.freeIndex := rfl
@[simp] theorem State.report_inReset (c : AlertCause) : (s.report c).inReset = s.inReset := rfl
@[simp] theorem State.report_lines (c : AlertCause) : (s.report c).lines = s.lines := rfl
@[simp] theorem State.report_wire (c : AlertCause) : (s.report c).wire = s.wire := rfl
@[simp] theorem State.report_role (c : AlertCause) : (s.report c).role = s.role := rfl
@[simp] theorem State.report_regions (c : AlertCause) : (s.report c).regions = s.regions := rfl
@[simp] theorem State.report_params (c : AlertCause) : (s.report c).params = s.params := rfl
@[simp] theorem State.report_host (c : AlertCause) : (s.report c).host = s.host := rfl
@[simp] theorem State.report_mem (c : AlertCause) : (s.report c).mem = s.mem := rfl
@[simp] theorem State.report_journal (c : AlertCause) : (s.report c).journal = s.journal := rfl
@[simp] theorem State.report_map (c : AlertCause) : (s.report c).map = s.map := rfl
@[simp] theorem State.report_sweep (c : AlertCause) : (s.report c).sweep = s.sweep := rfl
@[simp] theorem State.report_link (c : AlertCause) : (s.report c).link = s.link := rfl
@[simp] theorem State.report_sender (c : AlertCause) : (s.report c).sender = s.sender := rfl
@[simp] theorem State.report_receiver (c : AlertCause) : (s.report c).receiver = s.receiver := rfl
@[simp] theorem State.report_apply (c : AlertCause) : (s.report c).apply = s.apply := rfl
@[simp] theorem State.report_pair (c : AlertCause) : (s.report c).pair = s.pair := rfl
@[simp] theorem State.report_mgmt (c : AlertCause) : (s.report c).mgmt = s.mgmt := rfl
@[simp] theorem State.report_counters (c : AlertCause) : (s.report c).counters = s.counters := rfl

/-! `State.answer` -/

@[simp] theorem State.answer_pending (a : HostAnswer) : (s.answer a).pending = s.pending := rfl
@[simp] theorem State.answer_freeIndex (a : HostAnswer) : (s.answer a).freeIndex = s.freeIndex := rfl
@[simp] theorem State.answer_inReset (a : HostAnswer) : (s.answer a).inReset = s.inReset := rfl
@[simp] theorem State.answer_lines (a : HostAnswer) : (s.answer a).lines = s.lines := rfl
@[simp] theorem State.answer_wire (a : HostAnswer) : (s.answer a).wire = s.wire := rfl
@[simp] theorem State.answer_role (a : HostAnswer) : (s.answer a).role = s.role := rfl
@[simp] theorem State.answer_regions (a : HostAnswer) : (s.answer a).regions = s.regions := rfl
@[simp] theorem State.answer_params (a : HostAnswer) : (s.answer a).params = s.params := rfl
@[simp] theorem State.answer_mem (a : HostAnswer) : (s.answer a).mem = s.mem := rfl
@[simp] theorem State.answer_journal (a : HostAnswer) : (s.answer a).journal = s.journal := rfl
@[simp] theorem State.answer_map (a : HostAnswer) : (s.answer a).map = s.map := rfl
@[simp] theorem State.answer_sweep (a : HostAnswer) : (s.answer a).sweep = s.sweep := rfl
@[simp] theorem State.answer_link (a : HostAnswer) : (s.answer a).link = s.link := rfl
@[simp] theorem State.answer_sender (a : HostAnswer) : (s.answer a).sender = s.sender := rfl
@[simp] theorem State.answer_receiver (a : HostAnswer) : (s.answer a).receiver = s.receiver := rfl
@[simp] theorem State.answer_apply (a : HostAnswer) : (s.answer a).apply = s.apply := rfl
@[simp] theorem State.answer_pair (a : HostAnswer) : (s.answer a).pair = s.pair := rfl
@[simp] theorem State.answer_mgmt (a : HostAnswer) : (s.answer a).mgmt = s.mgmt := rfl
@[simp] theorem State.answer_alert (a : HostAnswer) : (s.answer a).alert = s.alert := rfl
@[simp] theorem State.answer_counters (a : HostAnswer) : (s.answer a).counters = s.counters := rfl

/-! `State.dropHost` -/

@[simp] theorem State.dropHost_pending : (s.dropHost).pending = s.pending := rfl
@[simp] theorem State.dropHost_freeIndex : (s.dropHost).freeIndex = s.freeIndex := rfl
@[simp] theorem State.dropHost_inReset : (s.dropHost).inReset = s.inReset := rfl
@[simp] theorem State.dropHost_lines : (s.dropHost).lines = s.lines := rfl
@[simp] theorem State.dropHost_wire : (s.dropHost).wire = s.wire := rfl
@[simp] theorem State.dropHost_role : (s.dropHost).role = s.role := rfl
@[simp] theorem State.dropHost_regions : (s.dropHost).regions = s.regions := rfl
@[simp] theorem State.dropHost_params : (s.dropHost).params = s.params := rfl
@[simp] theorem State.dropHost_mem : (s.dropHost).mem = s.mem := rfl
@[simp] theorem State.dropHost_journal : (s.dropHost).journal = s.journal := rfl
@[simp] theorem State.dropHost_map : (s.dropHost).map = s.map := rfl
@[simp] theorem State.dropHost_sweep : (s.dropHost).sweep = s.sweep := rfl
@[simp] theorem State.dropHost_link : (s.dropHost).link = s.link := rfl
@[simp] theorem State.dropHost_sender : (s.dropHost).sender = s.sender := rfl
@[simp] theorem State.dropHost_receiver : (s.dropHost).receiver = s.receiver := rfl
@[simp] theorem State.dropHost_apply : (s.dropHost).apply = s.apply := rfl
@[simp] theorem State.dropHost_pair : (s.dropHost).pair = s.pair := rfl
@[simp] theorem State.dropHost_mgmt : (s.dropHost).mgmt = s.mgmt := rfl
@[simp] theorem State.dropHost_alert : (s.dropHost).alert = s.alert := rfl
@[simp] theorem State.dropHost_counters : (s.dropHost).counters = s.counters := rfl

/-! `State.toPortWait` -/

@[simp] theorem State.toPortWait_pending (b : Bool) : (s.toPortWait b).pending = s.pending := rfl
@[simp] theorem State.toPortWait_freeIndex (b : Bool) : (s.toPortWait b).freeIndex = s.freeIndex := rfl
@[simp] theorem State.toPortWait_inReset (b : Bool) : (s.toPortWait b).inReset = s.inReset := rfl
@[simp] theorem State.toPortWait_lines (b : Bool) : (s.toPortWait b).lines = s.lines := rfl
@[simp] theorem State.toPortWait_wire (b : Bool) : (s.toPortWait b).wire = s.wire := rfl
@[simp] theorem State.toPortWait_role (b : Bool) : (s.toPortWait b).role = s.role := rfl
@[simp] theorem State.toPortWait_regions (b : Bool) : (s.toPortWait b).regions = s.regions := rfl
@[simp] theorem State.toPortWait_params (b : Bool) : (s.toPortWait b).params = s.params := rfl
@[simp] theorem State.toPortWait_mem (b : Bool) : (s.toPortWait b).mem = s.mem := rfl
@[simp] theorem State.toPortWait_journal (b : Bool) : (s.toPortWait b).journal = s.journal := rfl
@[simp] theorem State.toPortWait_map (b : Bool) : (s.toPortWait b).map = s.map := rfl
@[simp] theorem State.toPortWait_sweep (b : Bool) : (s.toPortWait b).sweep = s.sweep := rfl
@[simp] theorem State.toPortWait_link (b : Bool) : (s.toPortWait b).link = s.link := rfl
@[simp] theorem State.toPortWait_sender (b : Bool) : (s.toPortWait b).sender = s.sender := rfl
@[simp] theorem State.toPortWait_receiver (b : Bool) : (s.toPortWait b).receiver = s.receiver := rfl
@[simp] theorem State.toPortWait_apply (b : Bool) : (s.toPortWait b).apply = s.apply := rfl
@[simp] theorem State.toPortWait_pair (b : Bool) : (s.toPortWait b).pair = s.pair := rfl
@[simp] theorem State.toPortWait_mgmt (b : Bool) : (s.toPortWait b).mgmt = s.mgmt := rfl
@[simp] theorem State.toPortWait_alert (b : Bool) : (s.toPortWait b).alert = s.alert := rfl
@[simp] theorem State.toPortWait_counters (b : Bool) : (s.toPortWait b).counters = s.counters := rfl

/-! `State.clearWaiter` -/

@[simp] theorem State.clearWaiter_pending : (s.clearWaiter).pending = s.pending := rfl
@[simp] theorem State.clearWaiter_freeIndex : (s.clearWaiter).freeIndex = s.freeIndex := rfl
@[simp] theorem State.clearWaiter_inReset : (s.clearWaiter).inReset = s.inReset := rfl
@[simp] theorem State.clearWaiter_lines : (s.clearWaiter).lines = s.lines := rfl
@[simp] theorem State.clearWaiter_wire : (s.clearWaiter).wire = s.wire := rfl
@[simp] theorem State.clearWaiter_role : (s.clearWaiter).role = s.role := rfl
@[simp] theorem State.clearWaiter_regions : (s.clearWaiter).regions = s.regions := rfl
@[simp] theorem State.clearWaiter_params : (s.clearWaiter).params = s.params := rfl
@[simp] theorem State.clearWaiter_host : (s.clearWaiter).host = s.host := rfl
@[simp] theorem State.clearWaiter_mem : (s.clearWaiter).mem = s.mem := rfl
@[simp] theorem State.clearWaiter_map : (s.clearWaiter).map = s.map := rfl
@[simp] theorem State.clearWaiter_sweep : (s.clearWaiter).sweep = s.sweep := rfl
@[simp] theorem State.clearWaiter_link : (s.clearWaiter).link = s.link := rfl
@[simp] theorem State.clearWaiter_sender : (s.clearWaiter).sender = s.sender := rfl
@[simp] theorem State.clearWaiter_receiver : (s.clearWaiter).receiver = s.receiver := rfl
@[simp] theorem State.clearWaiter_apply : (s.clearWaiter).apply = s.apply := rfl
@[simp] theorem State.clearWaiter_pair : (s.clearWaiter).pair = s.pair := rfl
@[simp] theorem State.clearWaiter_mgmt : (s.clearWaiter).mgmt = s.mgmt := rfl
@[simp] theorem State.clearWaiter_alert : (s.clearWaiter).alert = s.alert := rfl
@[simp] theorem State.clearWaiter_counters : (s.clearWaiter).counters = s.counters := rfl

/-! `State.refuseFenced` -/

@[simp] theorem State.refuseFenced_pending : (s.refuseFenced).pending = s.pending := rfl
@[simp] theorem State.refuseFenced_freeIndex : (s.refuseFenced).freeIndex = s.freeIndex := rfl
@[simp] theorem State.refuseFenced_inReset : (s.refuseFenced).inReset = s.inReset := rfl
@[simp] theorem State.refuseFenced_lines : (s.refuseFenced).lines = s.lines := rfl
@[simp] theorem State.refuseFenced_wire : (s.refuseFenced).wire = s.wire := rfl
@[simp] theorem State.refuseFenced_role : (s.refuseFenced).role = s.role := rfl
@[simp] theorem State.refuseFenced_regions : (s.refuseFenced).regions = s.regions := rfl
@[simp] theorem State.refuseFenced_params : (s.refuseFenced).params = s.params := rfl
@[simp] theorem State.refuseFenced_mem : (s.refuseFenced).mem = s.mem := rfl
@[simp] theorem State.refuseFenced_journal : (s.refuseFenced).journal = s.journal := rfl
@[simp] theorem State.refuseFenced_map : (s.refuseFenced).map = s.map := rfl
@[simp] theorem State.refuseFenced_sweep : (s.refuseFenced).sweep = s.sweep := rfl
@[simp] theorem State.refuseFenced_link : (s.refuseFenced).link = s.link := rfl
@[simp] theorem State.refuseFenced_sender : (s.refuseFenced).sender = s.sender := rfl
@[simp] theorem State.refuseFenced_receiver : (s.refuseFenced).receiver = s.receiver := rfl
@[simp] theorem State.refuseFenced_apply : (s.refuseFenced).apply = s.apply := rfl
@[simp] theorem State.refuseFenced_pair : (s.refuseFenced).pair = s.pair := rfl
@[simp] theorem State.refuseFenced_mgmt : (s.refuseFenced).mgmt = s.mgmt := rfl

/-! `State.refuseMisaligned` -/

@[simp] theorem State.refuseMisaligned_pending : (s.refuseMisaligned).pending = s.pending := rfl
@[simp] theorem State.refuseMisaligned_freeIndex : (s.refuseMisaligned).freeIndex = s.freeIndex := rfl
@[simp] theorem State.refuseMisaligned_inReset : (s.refuseMisaligned).inReset = s.inReset := rfl
@[simp] theorem State.refuseMisaligned_lines : (s.refuseMisaligned).lines = s.lines := rfl
@[simp] theorem State.refuseMisaligned_wire : (s.refuseMisaligned).wire = s.wire := rfl
@[simp] theorem State.refuseMisaligned_role : (s.refuseMisaligned).role = s.role := rfl
@[simp] theorem State.refuseMisaligned_regions : (s.refuseMisaligned).regions = s.regions := rfl
@[simp] theorem State.refuseMisaligned_params : (s.refuseMisaligned).params = s.params := rfl
@[simp] theorem State.refuseMisaligned_mem : (s.refuseMisaligned).mem = s.mem := rfl
@[simp] theorem State.refuseMisaligned_journal : (s.refuseMisaligned).journal = s.journal := rfl
@[simp] theorem State.refuseMisaligned_map : (s.refuseMisaligned).map = s.map := rfl
@[simp] theorem State.refuseMisaligned_sweep : (s.refuseMisaligned).sweep = s.sweep := rfl
@[simp] theorem State.refuseMisaligned_link : (s.refuseMisaligned).link = s.link := rfl
@[simp] theorem State.refuseMisaligned_sender : (s.refuseMisaligned).sender = s.sender := rfl
@[simp] theorem State.refuseMisaligned_receiver : (s.refuseMisaligned).receiver = s.receiver := rfl
@[simp] theorem State.refuseMisaligned_apply : (s.refuseMisaligned).apply = s.apply := rfl
@[simp] theorem State.refuseMisaligned_pair : (s.refuseMisaligned).pair = s.pair := rfl
@[simp] theorem State.refuseMisaligned_mgmt : (s.refuseMisaligned).mgmt = s.mgmt := rfl
@[simp] theorem State.refuseMisaligned_alert : (s.refuseMisaligned).alert = s.alert := rfl

/-! `State.enterScanning` -/

@[simp] theorem State.enterScanning_pending : (s.enterScanning).pending = s.pending := rfl
@[simp] theorem State.enterScanning_freeIndex : (s.enterScanning).freeIndex = s.freeIndex := rfl
@[simp] theorem State.enterScanning_inReset : (s.enterScanning).inReset = s.inReset := rfl
@[simp] theorem State.enterScanning_lines : (s.enterScanning).lines = s.lines := rfl
@[simp] theorem State.enterScanning_wire : (s.enterScanning).wire = s.wire := rfl
@[simp] theorem State.enterScanning_role : (s.enterScanning).role = s.role := rfl
@[simp] theorem State.enterScanning_regions : (s.enterScanning).regions = s.regions := rfl
@[simp] theorem State.enterScanning_params : (s.enterScanning).params = s.params := rfl
@[simp] theorem State.enterScanning_host : (s.enterScanning).host = s.host := rfl
@[simp] theorem State.enterScanning_mem : (s.enterScanning).mem = s.mem := rfl
@[simp] theorem State.enterScanning_journal : (s.enterScanning).journal = s.journal := rfl
@[simp] theorem State.enterScanning_map : (s.enterScanning).map = s.map := rfl
@[simp] theorem State.enterScanning_link : (s.enterScanning).link = s.link := rfl
@[simp] theorem State.enterScanning_sender : (s.enterScanning).sender = s.sender := rfl
@[simp] theorem State.enterScanning_receiver : (s.enterScanning).receiver = s.receiver := rfl
@[simp] theorem State.enterScanning_apply : (s.enterScanning).apply = s.apply := rfl
@[simp] theorem State.enterScanning_pair : (s.enterScanning).pair = s.pair := rfl
@[simp] theorem State.enterScanning_mgmt : (s.enterScanning).mgmt = s.mgmt := rfl
@[simp] theorem State.enterScanning_alert : (s.enterScanning).alert = s.alert := rfl
@[simp] theorem State.enterScanning_counters : (s.enterScanning).counters = s.counters := rfl

/-! `State.fillMap` -/

@[simp] theorem State.fillMap_pending : (s.fillMap).pending = s.pending := rfl
@[simp] theorem State.fillMap_freeIndex : (s.fillMap).freeIndex = s.freeIndex := rfl
@[simp] theorem State.fillMap_inReset : (s.fillMap).inReset = s.inReset := rfl
@[simp] theorem State.fillMap_lines : (s.fillMap).lines = s.lines := rfl
@[simp] theorem State.fillMap_wire : (s.fillMap).wire = s.wire := rfl
@[simp] theorem State.fillMap_role : (s.fillMap).role = s.role := rfl
@[simp] theorem State.fillMap_regions : (s.fillMap).regions = s.regions := rfl
@[simp] theorem State.fillMap_params : (s.fillMap).params = s.params := rfl
@[simp] theorem State.fillMap_host : (s.fillMap).host = s.host := rfl
@[simp] theorem State.fillMap_mem : (s.fillMap).mem = s.mem := rfl
@[simp] theorem State.fillMap_journal : (s.fillMap).journal = s.journal := rfl
@[simp] theorem State.fillMap_sweep : (s.fillMap).sweep = s.sweep := rfl
@[simp] theorem State.fillMap_link : (s.fillMap).link = s.link := rfl
@[simp] theorem State.fillMap_sender : (s.fillMap).sender = s.sender := rfl
@[simp] theorem State.fillMap_receiver : (s.fillMap).receiver = s.receiver := rfl
@[simp] theorem State.fillMap_apply : (s.fillMap).apply = s.apply := rfl
@[simp] theorem State.fillMap_pair : (s.fillMap).pair = s.pair := rfl
@[simp] theorem State.fillMap_mgmt : (s.fillMap).mgmt = s.mgmt := rfl
@[simp] theorem State.fillMap_alert : (s.fillMap).alert = s.alert := rfl
@[simp] theorem State.fillMap_counters : (s.fillMap).counters = s.counters := rfl

/-! `State.appendRecord` -/

@[simp] theorem State.appendRecord_pending (r : Record) : (s.appendRecord r).pending = s.pending := rfl
@[simp] theorem State.appendRecord_freeIndex (r : Record) : (s.appendRecord r).freeIndex = s.freeIndex := rfl
@[simp] theorem State.appendRecord_inReset (r : Record) : (s.appendRecord r).inReset = s.inReset := rfl
@[simp] theorem State.appendRecord_lines (r : Record) : (s.appendRecord r).lines = s.lines := rfl
@[simp] theorem State.appendRecord_wire (r : Record) : (s.appendRecord r).wire = s.wire := rfl
@[simp] theorem State.appendRecord_role (r : Record) : (s.appendRecord r).role = s.role := rfl
@[simp] theorem State.appendRecord_regions (r : Record) : (s.appendRecord r).regions = s.regions := rfl
@[simp] theorem State.appendRecord_params (r : Record) : (s.appendRecord r).params = s.params := rfl
@[simp] theorem State.appendRecord_host (r : Record) : (s.appendRecord r).host = s.host := rfl
@[simp] theorem State.appendRecord_mem (r : Record) : (s.appendRecord r).mem = s.mem := rfl
@[simp] theorem State.appendRecord_map (r : Record) : (s.appendRecord r).map = s.map := rfl
@[simp] theorem State.appendRecord_sweep (r : Record) : (s.appendRecord r).sweep = s.sweep := rfl
@[simp] theorem State.appendRecord_link (r : Record) : (s.appendRecord r).link = s.link := rfl
@[simp] theorem State.appendRecord_sender (r : Record) : (s.appendRecord r).sender = s.sender := rfl
@[simp] theorem State.appendRecord_receiver (r : Record) : (s.appendRecord r).receiver = s.receiver := rfl
@[simp] theorem State.appendRecord_apply (r : Record) : (s.appendRecord r).apply = s.apply := rfl
@[simp] theorem State.appendRecord_pair (r : Record) : (s.appendRecord r).pair = s.pair := rfl
@[simp] theorem State.appendRecord_mgmt (r : Record) : (s.appendRecord r).mgmt = s.mgmt := rfl
@[simp] theorem State.appendRecord_alert (r : Record) : (s.appendRecord r).alert = s.alert := rfl
@[simp] theorem State.appendRecord_counters (r : Record) : (s.appendRecord r).counters = s.counters := rfl

/-! `State.changeTail` -/

@[simp] theorem State.changeTail_pending (f : Record → Record) : (s.changeTail f).pending = s.pending := rfl
@[simp] theorem State.changeTail_freeIndex (f : Record → Record) : (s.changeTail f).freeIndex = s.freeIndex := rfl
@[simp] theorem State.changeTail_inReset (f : Record → Record) : (s.changeTail f).inReset = s.inReset := rfl
@[simp] theorem State.changeTail_lines (f : Record → Record) : (s.changeTail f).lines = s.lines := rfl
@[simp] theorem State.changeTail_wire (f : Record → Record) : (s.changeTail f).wire = s.wire := rfl
@[simp] theorem State.changeTail_role (f : Record → Record) : (s.changeTail f).role = s.role := rfl
@[simp] theorem State.changeTail_regions (f : Record → Record) : (s.changeTail f).regions = s.regions := rfl
@[simp] theorem State.changeTail_params (f : Record → Record) : (s.changeTail f).params = s.params := rfl
@[simp] theorem State.changeTail_host (f : Record → Record) : (s.changeTail f).host = s.host := rfl
@[simp] theorem State.changeTail_mem (f : Record → Record) : (s.changeTail f).mem = s.mem := rfl
@[simp] theorem State.changeTail_map (f : Record → Record) : (s.changeTail f).map = s.map := rfl
@[simp] theorem State.changeTail_sweep (f : Record → Record) : (s.changeTail f).sweep = s.sweep := rfl
@[simp] theorem State.changeTail_link (f : Record → Record) : (s.changeTail f).link = s.link := rfl
@[simp] theorem State.changeTail_sender (f : Record → Record) : (s.changeTail f).sender = s.sender := rfl
@[simp] theorem State.changeTail_receiver (f : Record → Record) : (s.changeTail f).receiver = s.receiver := rfl
@[simp] theorem State.changeTail_apply (f : Record → Record) : (s.changeTail f).apply = s.apply := rfl
@[simp] theorem State.changeTail_pair (f : Record → Record) : (s.changeTail f).pair = s.pair := rfl
@[simp] theorem State.changeTail_mgmt (f : Record → Record) : (s.changeTail f).mgmt = s.mgmt := rfl
@[simp] theorem State.changeTail_alert (f : Record → Record) : (s.changeTail f).alert = s.alert := rfl
@[simp] theorem State.changeTail_counters (f : Record → Record) : (s.changeTail f).counters = s.counters := rfl

/-! `State.fillPlaceholder` -/

@[simp] theorem State.fillPlaceholder_pending (d : LineBytes) : (s.fillPlaceholder d).pending = s.pending := rfl
@[simp] theorem State.fillPlaceholder_freeIndex (d : LineBytes) : (s.fillPlaceholder d).freeIndex = s.freeIndex := rfl
@[simp] theorem State.fillPlaceholder_inReset (d : LineBytes) : (s.fillPlaceholder d).inReset = s.inReset := rfl
@[simp] theorem State.fillPlaceholder_lines (d : LineBytes) : (s.fillPlaceholder d).lines = s.lines := rfl
@[simp] theorem State.fillPlaceholder_wire (d : LineBytes) : (s.fillPlaceholder d).wire = s.wire := rfl
@[simp] theorem State.fillPlaceholder_role (d : LineBytes) : (s.fillPlaceholder d).role = s.role := rfl
@[simp] theorem State.fillPlaceholder_regions (d : LineBytes) : (s.fillPlaceholder d).regions = s.regions := rfl
@[simp] theorem State.fillPlaceholder_params (d : LineBytes) : (s.fillPlaceholder d).params = s.params := rfl
@[simp] theorem State.fillPlaceholder_host (d : LineBytes) : (s.fillPlaceholder d).host = s.host := rfl
@[simp] theorem State.fillPlaceholder_mem (d : LineBytes) : (s.fillPlaceholder d).mem = s.mem := rfl
@[simp] theorem State.fillPlaceholder_map (d : LineBytes) : (s.fillPlaceholder d).map = s.map := rfl
@[simp] theorem State.fillPlaceholder_sweep (d : LineBytes) : (s.fillPlaceholder d).sweep = s.sweep := rfl
@[simp] theorem State.fillPlaceholder_link (d : LineBytes) : (s.fillPlaceholder d).link = s.link := rfl
@[simp] theorem State.fillPlaceholder_sender (d : LineBytes) : (s.fillPlaceholder d).sender = s.sender := rfl
@[simp] theorem State.fillPlaceholder_receiver (d : LineBytes) : (s.fillPlaceholder d).receiver = s.receiver := rfl
@[simp] theorem State.fillPlaceholder_apply (d : LineBytes) : (s.fillPlaceholder d).apply = s.apply := rfl
@[simp] theorem State.fillPlaceholder_pair (d : LineBytes) : (s.fillPlaceholder d).pair = s.pair := rfl
@[simp] theorem State.fillPlaceholder_mgmt (d : LineBytes) : (s.fillPlaceholder d).mgmt = s.mgmt := rfl
@[simp] theorem State.fillPlaceholder_alert (d : LineBytes) : (s.fillPlaceholder d).alert = s.alert := rfl
@[simp] theorem State.fillPlaceholder_counters (d : LineBytes) : (s.fillPlaceholder d).counters = s.counters := rfl

/-! `State.rewind` -/

@[simp] theorem State.rewind_pending : (s.rewind).pending = s.pending := rfl
@[simp] theorem State.rewind_freeIndex : (s.rewind).freeIndex = s.freeIndex := rfl
@[simp] theorem State.rewind_inReset : (s.rewind).inReset = s.inReset := rfl
@[simp] theorem State.rewind_lines : (s.rewind).lines = s.lines := rfl
@[simp] theorem State.rewind_wire : (s.rewind).wire = s.wire := rfl
@[simp] theorem State.rewind_role : (s.rewind).role = s.role := rfl
@[simp] theorem State.rewind_regions : (s.rewind).regions = s.regions := rfl
@[simp] theorem State.rewind_params : (s.rewind).params = s.params := rfl
@[simp] theorem State.rewind_host : (s.rewind).host = s.host := rfl
@[simp] theorem State.rewind_mem : (s.rewind).mem = s.mem := rfl
@[simp] theorem State.rewind_map : (s.rewind).map = s.map := rfl
@[simp] theorem State.rewind_sweep : (s.rewind).sweep = s.sweep := rfl
@[simp] theorem State.rewind_link : (s.rewind).link = s.link := rfl
@[simp] theorem State.rewind_sender : (s.rewind).sender = s.sender := rfl
@[simp] theorem State.rewind_receiver : (s.rewind).receiver = s.receiver := rfl
@[simp] theorem State.rewind_apply : (s.rewind).apply = s.apply := rfl
@[simp] theorem State.rewind_pair : (s.rewind).pair = s.pair := rfl
@[simp] theorem State.rewind_mgmt : (s.rewind).mgmt = s.mgmt := rfl
@[simp] theorem State.rewind_alert : (s.rewind).alert = s.alert := rfl
@[simp] theorem State.rewind_counters : (s.rewind).counters = s.counters := rfl

/-! `State.addResult` -/

@[simp] theorem State.addResult_pending (e : MarkerResult) : (s.addResult e).pending = s.pending := rfl
@[simp] theorem State.addResult_freeIndex (e : MarkerResult) : (s.addResult e).freeIndex = s.freeIndex := rfl
@[simp] theorem State.addResult_inReset (e : MarkerResult) : (s.addResult e).inReset = s.inReset := rfl
@[simp] theorem State.addResult_lines (e : MarkerResult) : (s.addResult e).lines = s.lines := rfl
@[simp] theorem State.addResult_wire (e : MarkerResult) : (s.addResult e).wire = s.wire := rfl
@[simp] theorem State.addResult_role (e : MarkerResult) : (s.addResult e).role = s.role := rfl
@[simp] theorem State.addResult_regions (e : MarkerResult) : (s.addResult e).regions = s.regions := rfl
@[simp] theorem State.addResult_params (e : MarkerResult) : (s.addResult e).params = s.params := rfl
@[simp] theorem State.addResult_host (e : MarkerResult) : (s.addResult e).host = s.host := rfl
@[simp] theorem State.addResult_mem (e : MarkerResult) : (s.addResult e).mem = s.mem := rfl
@[simp] theorem State.addResult_journal (e : MarkerResult) : (s.addResult e).journal = s.journal := rfl
@[simp] theorem State.addResult_map (e : MarkerResult) : (s.addResult e).map = s.map := rfl
@[simp] theorem State.addResult_sweep (e : MarkerResult) : (s.addResult e).sweep = s.sweep := rfl
@[simp] theorem State.addResult_link (e : MarkerResult) : (s.addResult e).link = s.link := rfl
@[simp] theorem State.addResult_sender (e : MarkerResult) : (s.addResult e).sender = s.sender := rfl
@[simp] theorem State.addResult_receiver (e : MarkerResult) : (s.addResult e).receiver = s.receiver := rfl
@[simp] theorem State.addResult_apply (e : MarkerResult) : (s.addResult e).apply = s.apply := rfl
@[simp] theorem State.addResult_mgmt (e : MarkerResult) : (s.addResult e).mgmt = s.mgmt := rfl
@[simp] theorem State.addResult_alert (e : MarkerResult) : (s.addResult e).alert = s.alert := rfl
@[simp] theorem State.addResult_counters (e : MarkerResult) : (s.addResult e).counters = s.counters := rfl

/-! `State.lineFill` -/

@[simp] theorem State.lineFill_pending : (s.lineFill).pending = s.pending := rfl
@[simp] theorem State.lineFill_inReset : (s.lineFill).inReset = s.inReset := rfl
@[simp] theorem State.lineFill_lines : (s.lineFill).lines = s.lines := rfl
@[simp] theorem State.lineFill_role : (s.lineFill).role = s.role := rfl
@[simp] theorem State.lineFill_regions : (s.lineFill).regions = s.regions := rfl
@[simp] theorem State.lineFill_params : (s.lineFill).params = s.params := rfl
@[simp] theorem State.lineFill_host : (s.lineFill).host = s.host := rfl
@[simp] theorem State.lineFill_mem : (s.lineFill).mem = s.mem := rfl
@[simp] theorem State.lineFill_journal : (s.lineFill).journal = s.journal := rfl
@[simp] theorem State.lineFill_map : (s.lineFill).map = s.map := rfl
@[simp] theorem State.lineFill_sweep : (s.lineFill).sweep = s.sweep := rfl
@[simp] theorem State.lineFill_link : (s.lineFill).link = s.link := rfl
@[simp] theorem State.lineFill_sender : (s.lineFill).sender = s.sender := rfl
@[simp] theorem State.lineFill_receiver : (s.lineFill).receiver = s.receiver := rfl
@[simp] theorem State.lineFill_apply : (s.lineFill).apply = s.apply := rfl
@[simp] theorem State.lineFill_pair : (s.lineFill).pair = s.pair := rfl
@[simp] theorem State.lineFill_mgmt : (s.lineFill).mgmt = s.mgmt := rfl
@[simp] theorem State.lineFill_alert : (s.lineFill).alert = s.alert := rfl
@[simp] theorem State.lineFill_counters : (s.lineFill).counters = s.counters := rfl

/-! `State.startRetx` -/

@[simp] theorem State.startRetx_pending : (s.startRetx).pending = s.pending := rfl
@[simp] theorem State.startRetx_freeIndex : (s.startRetx).freeIndex = s.freeIndex := rfl
@[simp] theorem State.startRetx_inReset : (s.startRetx).inReset = s.inReset := rfl
@[simp] theorem State.startRetx_lines : (s.startRetx).lines = s.lines := rfl
@[simp] theorem State.startRetx_wire : (s.startRetx).wire = s.wire := rfl
@[simp] theorem State.startRetx_role : (s.startRetx).role = s.role := rfl
@[simp] theorem State.startRetx_regions : (s.startRetx).regions = s.regions := rfl
@[simp] theorem State.startRetx_params : (s.startRetx).params = s.params := rfl
@[simp] theorem State.startRetx_host : (s.startRetx).host = s.host := rfl
@[simp] theorem State.startRetx_mem : (s.startRetx).mem = s.mem := rfl
@[simp] theorem State.startRetx_journal : (s.startRetx).journal = s.journal := rfl
@[simp] theorem State.startRetx_map : (s.startRetx).map = s.map := rfl
@[simp] theorem State.startRetx_sweep : (s.startRetx).sweep = s.sweep := rfl
@[simp] theorem State.startRetx_link : (s.startRetx).link = s.link := rfl
@[simp] theorem State.startRetx_receiver : (s.startRetx).receiver = s.receiver := rfl
@[simp] theorem State.startRetx_apply : (s.startRetx).apply = s.apply := rfl
@[simp] theorem State.startRetx_pair : (s.startRetx).pair = s.pair := rfl
@[simp] theorem State.startRetx_mgmt : (s.startRetx).mgmt = s.mgmt := rfl
@[simp] theorem State.startRetx_alert : (s.startRetx).alert = s.alert := rfl
@[simp] theorem State.startRetx_counters : (s.startRetx).counters = s.counters := rfl

/-! `State.stopRetx` -/

@[simp] theorem State.stopRetx_pending : (s.stopRetx).pending = s.pending := rfl
@[simp] theorem State.stopRetx_freeIndex : (s.stopRetx).freeIndex = s.freeIndex := rfl
@[simp] theorem State.stopRetx_inReset : (s.stopRetx).inReset = s.inReset := rfl
@[simp] theorem State.stopRetx_lines : (s.stopRetx).lines = s.lines := rfl
@[simp] theorem State.stopRetx_wire : (s.stopRetx).wire = s.wire := rfl
@[simp] theorem State.stopRetx_role : (s.stopRetx).role = s.role := rfl
@[simp] theorem State.stopRetx_regions : (s.stopRetx).regions = s.regions := rfl
@[simp] theorem State.stopRetx_params : (s.stopRetx).params = s.params := rfl
@[simp] theorem State.stopRetx_host : (s.stopRetx).host = s.host := rfl
@[simp] theorem State.stopRetx_mem : (s.stopRetx).mem = s.mem := rfl
@[simp] theorem State.stopRetx_journal : (s.stopRetx).journal = s.journal := rfl
@[simp] theorem State.stopRetx_map : (s.stopRetx).map = s.map := rfl
@[simp] theorem State.stopRetx_sweep : (s.stopRetx).sweep = s.sweep := rfl
@[simp] theorem State.stopRetx_link : (s.stopRetx).link = s.link := rfl
@[simp] theorem State.stopRetx_receiver : (s.stopRetx).receiver = s.receiver := rfl
@[simp] theorem State.stopRetx_apply : (s.stopRetx).apply = s.apply := rfl
@[simp] theorem State.stopRetx_pair : (s.stopRetx).pair = s.pair := rfl
@[simp] theorem State.stopRetx_mgmt : (s.stopRetx).mgmt = s.mgmt := rfl
@[simp] theorem State.stopRetx_alert : (s.stopRetx).alert = s.alert := rfl
@[simp] theorem State.stopRetx_counters : (s.stopRetx).counters = s.counters := rfl

/-! `State.resetSender` -/

@[simp] theorem State.resetSender_pending : (s.resetSender).pending = s.pending := rfl
@[simp] theorem State.resetSender_freeIndex : (s.resetSender).freeIndex = s.freeIndex := rfl
@[simp] theorem State.resetSender_inReset : (s.resetSender).inReset = s.inReset := rfl
@[simp] theorem State.resetSender_lines : (s.resetSender).lines = s.lines := rfl
@[simp] theorem State.resetSender_wire : (s.resetSender).wire = s.wire := rfl
@[simp] theorem State.resetSender_role : (s.resetSender).role = s.role := rfl
@[simp] theorem State.resetSender_regions : (s.resetSender).regions = s.regions := rfl
@[simp] theorem State.resetSender_params : (s.resetSender).params = s.params := rfl
@[simp] theorem State.resetSender_host : (s.resetSender).host = s.host := rfl
@[simp] theorem State.resetSender_mem : (s.resetSender).mem = s.mem := rfl
@[simp] theorem State.resetSender_journal : (s.resetSender).journal = s.journal := rfl
@[simp] theorem State.resetSender_map : (s.resetSender).map = s.map := rfl
@[simp] theorem State.resetSender_sweep : (s.resetSender).sweep = s.sweep := rfl
@[simp] theorem State.resetSender_link : (s.resetSender).link = s.link := rfl
@[simp] theorem State.resetSender_receiver : (s.resetSender).receiver = s.receiver := rfl
@[simp] theorem State.resetSender_apply : (s.resetSender).apply = s.apply := rfl
@[simp] theorem State.resetSender_pair : (s.resetSender).pair = s.pair := rfl
@[simp] theorem State.resetSender_mgmt : (s.resetSender).mgmt = s.mgmt := rfl
@[simp] theorem State.resetSender_alert : (s.resetSender).alert = s.alert := rfl
@[simp] theorem State.resetSender_counters : (s.resetSender).counters = s.counters := rfl

/-! `State.transmit` -/

@[simp] theorem State.transmit_pending (f : LinkFrame) (d : Due) : (s.transmit f d).pending = s.pending := rfl
@[simp] theorem State.transmit_freeIndex (f : LinkFrame) (d : Due) : (s.transmit f d).freeIndex = s.freeIndex := rfl
@[simp] theorem State.transmit_inReset (f : LinkFrame) (d : Due) : (s.transmit f d).inReset = s.inReset := rfl
@[simp] theorem State.transmit_lines (f : LinkFrame) (d : Due) : (s.transmit f d).lines = s.lines := rfl
@[simp] theorem State.transmit_wire (f : LinkFrame) (d : Due) : (s.transmit f d).wire = s.wire := rfl
@[simp] theorem State.transmit_role (f : LinkFrame) (d : Due) : (s.transmit f d).role = s.role := rfl
@[simp] theorem State.transmit_regions (f : LinkFrame) (d : Due) : (s.transmit f d).regions = s.regions := rfl
@[simp] theorem State.transmit_params (f : LinkFrame) (d : Due) : (s.transmit f d).params = s.params := rfl
@[simp] theorem State.transmit_host (f : LinkFrame) (d : Due) : (s.transmit f d).host = s.host := rfl
@[simp] theorem State.transmit_mem (f : LinkFrame) (d : Due) : (s.transmit f d).mem = s.mem := rfl
@[simp] theorem State.transmit_journal (f : LinkFrame) (d : Due) : (s.transmit f d).journal = s.journal := rfl
@[simp] theorem State.transmit_map (f : LinkFrame) (d : Due) : (s.transmit f d).map = s.map := rfl
@[simp] theorem State.transmit_sweep (f : LinkFrame) (d : Due) : (s.transmit f d).sweep = s.sweep := rfl
@[simp] theorem State.transmit_sender (f : LinkFrame) (d : Due) : (s.transmit f d).sender = s.sender := rfl
@[simp] theorem State.transmit_receiver (f : LinkFrame) (d : Due) : (s.transmit f d).receiver = s.receiver := rfl
@[simp] theorem State.transmit_apply (f : LinkFrame) (d : Due) : (s.transmit f d).apply = s.apply := rfl
@[simp] theorem State.transmit_pair (f : LinkFrame) (d : Due) : (s.transmit f d).pair = s.pair := rfl
@[simp] theorem State.transmit_mgmt (f : LinkFrame) (d : Due) : (s.transmit f d).mgmt = s.mgmt := rfl
@[simp] theorem State.transmit_alert (f : LinkFrame) (d : Due) : (s.transmit f d).alert = s.alert := rfl
@[simp] theorem State.transmit_counters (f : LinkFrame) (d : Due) : (s.transmit f d).counters = s.counters := rfl

/-! `State.setLink` -/

@[simp] theorem State.setLink_pending (dest : LinkState) : (s.setLink dest).pending = s.pending := rfl
@[simp] theorem State.setLink_freeIndex (dest : LinkState) : (s.setLink dest).freeIndex = s.freeIndex := rfl
@[simp] theorem State.setLink_inReset (dest : LinkState) : (s.setLink dest).inReset = s.inReset := rfl
@[simp] theorem State.setLink_lines (dest : LinkState) : (s.setLink dest).lines = s.lines := rfl
@[simp] theorem State.setLink_wire (dest : LinkState) : (s.setLink dest).wire = s.wire := rfl
@[simp] theorem State.setLink_role (dest : LinkState) : (s.setLink dest).role = s.role := rfl
@[simp] theorem State.setLink_regions (dest : LinkState) : (s.setLink dest).regions = s.regions := rfl
@[simp] theorem State.setLink_params (dest : LinkState) : (s.setLink dest).params = s.params := rfl
@[simp] theorem State.setLink_host (dest : LinkState) : (s.setLink dest).host = s.host := rfl
@[simp] theorem State.setLink_mem (dest : LinkState) : (s.setLink dest).mem = s.mem := rfl
@[simp] theorem State.setLink_journal (dest : LinkState) : (s.setLink dest).journal = s.journal := rfl
@[simp] theorem State.setLink_map (dest : LinkState) : (s.setLink dest).map = s.map := rfl
@[simp] theorem State.setLink_sweep (dest : LinkState) : (s.setLink dest).sweep = s.sweep := rfl
@[simp] theorem State.setLink_sender (dest : LinkState) : (s.setLink dest).sender = s.sender := rfl
@[simp] theorem State.setLink_receiver (dest : LinkState) : (s.setLink dest).receiver = s.receiver := rfl
@[simp] theorem State.setLink_apply (dest : LinkState) : (s.setLink dest).apply = s.apply := rfl
@[simp] theorem State.setLink_pair (dest : LinkState) : (s.setLink dest).pair = s.pair := rfl
@[simp] theorem State.setLink_mgmt (dest : LinkState) : (s.setLink dest).mgmt = s.mgmt := rfl
@[simp] theorem State.setLink_alert (dest : LinkState) : (s.setLink dest).alert = s.alert := rfl
@[simp] theorem State.setLink_counters (dest : LinkState) : (s.setLink dest).counters = s.counters := rfl

/-! `State.beginEpisode` -/

@[simp] theorem State.beginEpisode_pending : (s.beginEpisode).pending = s.pending := rfl
@[simp] theorem State.beginEpisode_freeIndex : (s.beginEpisode).freeIndex = s.freeIndex := rfl
@[simp] theorem State.beginEpisode_inReset : (s.beginEpisode).inReset = s.inReset := rfl
@[simp] theorem State.beginEpisode_lines : (s.beginEpisode).lines = s.lines := rfl
@[simp] theorem State.beginEpisode_wire : (s.beginEpisode).wire = s.wire := rfl
@[simp] theorem State.beginEpisode_role : (s.beginEpisode).role = s.role := rfl
@[simp] theorem State.beginEpisode_regions : (s.beginEpisode).regions = s.regions := rfl
@[simp] theorem State.beginEpisode_params : (s.beginEpisode).params = s.params := rfl
@[simp] theorem State.beginEpisode_host : (s.beginEpisode).host = s.host := rfl
@[simp] theorem State.beginEpisode_mem : (s.beginEpisode).mem = s.mem := rfl
@[simp] theorem State.beginEpisode_journal : (s.beginEpisode).journal = s.journal := rfl
@[simp] theorem State.beginEpisode_map : (s.beginEpisode).map = s.map := rfl
@[simp] theorem State.beginEpisode_sweep : (s.beginEpisode).sweep = s.sweep := rfl
@[simp] theorem State.beginEpisode_sender : (s.beginEpisode).sender = s.sender := rfl
@[simp] theorem State.beginEpisode_receiver : (s.beginEpisode).receiver = s.receiver := rfl
@[simp] theorem State.beginEpisode_apply : (s.beginEpisode).apply = s.apply := rfl
@[simp] theorem State.beginEpisode_pair : (s.beginEpisode).pair = s.pair := rfl
@[simp] theorem State.beginEpisode_mgmt : (s.beginEpisode).mgmt = s.mgmt := rfl
@[simp] theorem State.beginEpisode_alert : (s.beginEpisode).alert = s.alert := rfl
@[simp] theorem State.beginEpisode_counters : (s.beginEpisode).counters = s.counters := rfl

/-! `State.enterTraining` -/

@[simp] theorem State.enterTraining_pending : (s.enterTraining).pending = s.pending := rfl
@[simp] theorem State.enterTraining_freeIndex : (s.enterTraining).freeIndex = s.freeIndex := rfl
@[simp] theorem State.enterTraining_inReset : (s.enterTraining).inReset = s.inReset := rfl
@[simp] theorem State.enterTraining_lines : (s.enterTraining).lines = s.lines := rfl
@[simp] theorem State.enterTraining_wire : (s.enterTraining).wire = s.wire := rfl
@[simp] theorem State.enterTraining_role : (s.enterTraining).role = s.role := rfl
@[simp] theorem State.enterTraining_regions : (s.enterTraining).regions = s.regions := rfl
@[simp] theorem State.enterTraining_params : (s.enterTraining).params = s.params := rfl
@[simp] theorem State.enterTraining_host : (s.enterTraining).host = s.host := rfl
@[simp] theorem State.enterTraining_mem : (s.enterTraining).mem = s.mem := rfl
@[simp] theorem State.enterTraining_journal : (s.enterTraining).journal = s.journal := rfl
@[simp] theorem State.enterTraining_map : (s.enterTraining).map = s.map := rfl
@[simp] theorem State.enterTraining_sweep : (s.enterTraining).sweep = s.sweep := rfl
@[simp] theorem State.enterTraining_sender : (s.enterTraining).sender = s.sender := rfl
@[simp] theorem State.enterTraining_receiver : (s.enterTraining).receiver = s.receiver := rfl
@[simp] theorem State.enterTraining_apply : (s.enterTraining).apply = s.apply := rfl
@[simp] theorem State.enterTraining_pair : (s.enterTraining).pair = s.pair := rfl
@[simp] theorem State.enterTraining_mgmt : (s.enterTraining).mgmt = s.mgmt := rfl
@[simp] theorem State.enterTraining_alert : (s.enterTraining).alert = s.alert := rfl
@[simp] theorem State.enterTraining_counters : (s.enterTraining).counters = s.counters := rfl

/-! `State.restartSilence` -/

@[simp] theorem State.restartSilence_pending : (s.restartSilence).pending = s.pending := rfl
@[simp] theorem State.restartSilence_freeIndex : (s.restartSilence).freeIndex = s.freeIndex := rfl
@[simp] theorem State.restartSilence_inReset : (s.restartSilence).inReset = s.inReset := rfl
@[simp] theorem State.restartSilence_lines : (s.restartSilence).lines = s.lines := rfl
@[simp] theorem State.restartSilence_wire : (s.restartSilence).wire = s.wire := rfl
@[simp] theorem State.restartSilence_role : (s.restartSilence).role = s.role := rfl
@[simp] theorem State.restartSilence_regions : (s.restartSilence).regions = s.regions := rfl
@[simp] theorem State.restartSilence_params : (s.restartSilence).params = s.params := rfl
@[simp] theorem State.restartSilence_host : (s.restartSilence).host = s.host := rfl
@[simp] theorem State.restartSilence_mem : (s.restartSilence).mem = s.mem := rfl
@[simp] theorem State.restartSilence_journal : (s.restartSilence).journal = s.journal := rfl
@[simp] theorem State.restartSilence_map : (s.restartSilence).map = s.map := rfl
@[simp] theorem State.restartSilence_sweep : (s.restartSilence).sweep = s.sweep := rfl
@[simp] theorem State.restartSilence_sender : (s.restartSilence).sender = s.sender := rfl
@[simp] theorem State.restartSilence_receiver : (s.restartSilence).receiver = s.receiver := rfl
@[simp] theorem State.restartSilence_apply : (s.restartSilence).apply = s.apply := rfl
@[simp] theorem State.restartSilence_pair : (s.restartSilence).pair = s.pair := rfl
@[simp] theorem State.restartSilence_mgmt : (s.restartSilence).mgmt = s.mgmt := rfl
@[simp] theorem State.restartSilence_alert : (s.restartSilence).alert = s.alert := rfl
@[simp] theorem State.restartSilence_counters : (s.restartSilence).counters = s.counters := rfl

/-! `State.enterUp` -/

@[simp] theorem State.enterUp_pending : (s.enterUp).pending = s.pending := rfl
@[simp] theorem State.enterUp_freeIndex : (s.enterUp).freeIndex = s.freeIndex := rfl
@[simp] theorem State.enterUp_inReset : (s.enterUp).inReset = s.inReset := rfl
@[simp] theorem State.enterUp_lines : (s.enterUp).lines = s.lines := rfl
@[simp] theorem State.enterUp_wire : (s.enterUp).wire = s.wire := rfl
@[simp] theorem State.enterUp_role : (s.enterUp).role = s.role := rfl
@[simp] theorem State.enterUp_regions : (s.enterUp).regions = s.regions := rfl
@[simp] theorem State.enterUp_params : (s.enterUp).params = s.params := rfl
@[simp] theorem State.enterUp_host : (s.enterUp).host = s.host := rfl
@[simp] theorem State.enterUp_mem : (s.enterUp).mem = s.mem := rfl
@[simp] theorem State.enterUp_journal : (s.enterUp).journal = s.journal := rfl
@[simp] theorem State.enterUp_map : (s.enterUp).map = s.map := rfl
@[simp] theorem State.enterUp_sweep : (s.enterUp).sweep = s.sweep := rfl
@[simp] theorem State.enterUp_sender : (s.enterUp).sender = s.sender := rfl
@[simp] theorem State.enterUp_receiver : (s.enterUp).receiver = s.receiver := rfl
@[simp] theorem State.enterUp_apply : (s.enterUp).apply = s.apply := rfl
@[simp] theorem State.enterUp_pair : (s.enterUp).pair = s.pair := rfl
@[simp] theorem State.enterUp_mgmt : (s.enterUp).mgmt = s.mgmt := rfl
@[simp] theorem State.enterUp_counters : (s.enterUp).counters = s.counters := rfl

/-! `State.dueHalt` -/

@[simp] theorem State.dueHalt_pending (r : HaltReason) : (s.dueHalt r).pending = s.pending := rfl
@[simp] theorem State.dueHalt_freeIndex (r : HaltReason) : (s.dueHalt r).freeIndex = s.freeIndex := rfl
@[simp] theorem State.dueHalt_inReset (r : HaltReason) : (s.dueHalt r).inReset = s.inReset := rfl
@[simp] theorem State.dueHalt_lines (r : HaltReason) : (s.dueHalt r).lines = s.lines := rfl
@[simp] theorem State.dueHalt_wire (r : HaltReason) : (s.dueHalt r).wire = s.wire := rfl
@[simp] theorem State.dueHalt_role (r : HaltReason) : (s.dueHalt r).role = s.role := rfl
@[simp] theorem State.dueHalt_regions (r : HaltReason) : (s.dueHalt r).regions = s.regions := rfl
@[simp] theorem State.dueHalt_params (r : HaltReason) : (s.dueHalt r).params = s.params := rfl
@[simp] theorem State.dueHalt_host (r : HaltReason) : (s.dueHalt r).host = s.host := rfl
@[simp] theorem State.dueHalt_mem (r : HaltReason) : (s.dueHalt r).mem = s.mem := rfl
@[simp] theorem State.dueHalt_journal (r : HaltReason) : (s.dueHalt r).journal = s.journal := rfl
@[simp] theorem State.dueHalt_map (r : HaltReason) : (s.dueHalt r).map = s.map := rfl
@[simp] theorem State.dueHalt_sweep (r : HaltReason) : (s.dueHalt r).sweep = s.sweep := rfl
@[simp] theorem State.dueHalt_sender (r : HaltReason) : (s.dueHalt r).sender = s.sender := rfl
@[simp] theorem State.dueHalt_receiver (r : HaltReason) : (s.dueHalt r).receiver = s.receiver := rfl
@[simp] theorem State.dueHalt_apply (r : HaltReason) : (s.dueHalt r).apply = s.apply := rfl
@[simp] theorem State.dueHalt_pair (r : HaltReason) : (s.dueHalt r).pair = s.pair := rfl
@[simp] theorem State.dueHalt_mgmt (r : HaltReason) : (s.dueHalt r).mgmt = s.mgmt := rfl
@[simp] theorem State.dueHalt_alert (r : HaltReason) : (s.dueHalt r).alert = s.alert := rfl
@[simp] theorem State.dueHalt_counters (r : HaltReason) : (s.dueHalt r).counters = s.counters := rfl

/-! `State.dueReady` -/

@[simp] theorem State.dueReady_pending : (s.dueReady).pending = s.pending := rfl
@[simp] theorem State.dueReady_freeIndex : (s.dueReady).freeIndex = s.freeIndex := rfl
@[simp] theorem State.dueReady_inReset : (s.dueReady).inReset = s.inReset := rfl
@[simp] theorem State.dueReady_lines : (s.dueReady).lines = s.lines := rfl
@[simp] theorem State.dueReady_wire : (s.dueReady).wire = s.wire := rfl
@[simp] theorem State.dueReady_role : (s.dueReady).role = s.role := rfl
@[simp] theorem State.dueReady_regions : (s.dueReady).regions = s.regions := rfl
@[simp] theorem State.dueReady_params : (s.dueReady).params = s.params := rfl
@[simp] theorem State.dueReady_host : (s.dueReady).host = s.host := rfl
@[simp] theorem State.dueReady_mem : (s.dueReady).mem = s.mem := rfl
@[simp] theorem State.dueReady_journal : (s.dueReady).journal = s.journal := rfl
@[simp] theorem State.dueReady_map : (s.dueReady).map = s.map := rfl
@[simp] theorem State.dueReady_sweep : (s.dueReady).sweep = s.sweep := rfl
@[simp] theorem State.dueReady_sender : (s.dueReady).sender = s.sender := rfl
@[simp] theorem State.dueReady_receiver : (s.dueReady).receiver = s.receiver := rfl
@[simp] theorem State.dueReady_apply : (s.dueReady).apply = s.apply := rfl
@[simp] theorem State.dueReady_pair : (s.dueReady).pair = s.pair := rfl
@[simp] theorem State.dueReady_mgmt : (s.dueReady).mgmt = s.mgmt := rfl
@[simp] theorem State.dueReady_alert : (s.dueReady).alert = s.alert := rfl
@[simp] theorem State.dueReady_counters : (s.dueReady).counters = s.counters := rfl

/-! `State.dueAck` -/

@[simp] theorem State.dueAck_pending : (s.dueAck).pending = s.pending := rfl
@[simp] theorem State.dueAck_freeIndex : (s.dueAck).freeIndex = s.freeIndex := rfl
@[simp] theorem State.dueAck_inReset : (s.dueAck).inReset = s.inReset := rfl
@[simp] theorem State.dueAck_lines : (s.dueAck).lines = s.lines := rfl
@[simp] theorem State.dueAck_wire : (s.dueAck).wire = s.wire := rfl
@[simp] theorem State.dueAck_role : (s.dueAck).role = s.role := rfl
@[simp] theorem State.dueAck_regions : (s.dueAck).regions = s.regions := rfl
@[simp] theorem State.dueAck_params : (s.dueAck).params = s.params := rfl
@[simp] theorem State.dueAck_host : (s.dueAck).host = s.host := rfl
@[simp] theorem State.dueAck_mem : (s.dueAck).mem = s.mem := rfl
@[simp] theorem State.dueAck_journal : (s.dueAck).journal = s.journal := rfl
@[simp] theorem State.dueAck_map : (s.dueAck).map = s.map := rfl
@[simp] theorem State.dueAck_sweep : (s.dueAck).sweep = s.sweep := rfl
@[simp] theorem State.dueAck_sender : (s.dueAck).sender = s.sender := rfl
@[simp] theorem State.dueAck_receiver : (s.dueAck).receiver = s.receiver := rfl
@[simp] theorem State.dueAck_apply : (s.dueAck).apply = s.apply := rfl
@[simp] theorem State.dueAck_pair : (s.dueAck).pair = s.pair := rfl
@[simp] theorem State.dueAck_mgmt : (s.dueAck).mgmt = s.mgmt := rfl
@[simp] theorem State.dueAck_alert : (s.dueAck).alert = s.alert := rfl
@[simp] theorem State.dueAck_counters : (s.dueAck).counters = s.counters := rfl

/-! `State.endCopy` -/

@[simp] theorem State.endCopy_pending (dest : SweepState) : (s.endCopy dest).pending = s.pending := rfl
@[simp] theorem State.endCopy_freeIndex (dest : SweepState) : (s.endCopy dest).freeIndex = s.freeIndex := rfl
@[simp] theorem State.endCopy_inReset (dest : SweepState) : (s.endCopy dest).inReset = s.inReset := rfl
@[simp] theorem State.endCopy_lines (dest : SweepState) : (s.endCopy dest).lines = s.lines := rfl
@[simp] theorem State.endCopy_wire (dest : SweepState) : (s.endCopy dest).wire = s.wire := rfl
@[simp] theorem State.endCopy_role (dest : SweepState) : (s.endCopy dest).role = s.role := rfl
@[simp] theorem State.endCopy_regions (dest : SweepState) : (s.endCopy dest).regions = s.regions := rfl
@[simp] theorem State.endCopy_params (dest : SweepState) : (s.endCopy dest).params = s.params := rfl
@[simp] theorem State.endCopy_host (dest : SweepState) : (s.endCopy dest).host = s.host := rfl
@[simp] theorem State.endCopy_mem (dest : SweepState) : (s.endCopy dest).mem = s.mem := rfl
@[simp] theorem State.endCopy_journal (dest : SweepState) : (s.endCopy dest).journal = s.journal := rfl
@[simp] theorem State.endCopy_map (dest : SweepState) : (s.endCopy dest).map = s.map := rfl
@[simp] theorem State.endCopy_link (dest : SweepState) : (s.endCopy dest).link = s.link := rfl
@[simp] theorem State.endCopy_sender (dest : SweepState) : (s.endCopy dest).sender = s.sender := rfl
@[simp] theorem State.endCopy_receiver (dest : SweepState) : (s.endCopy dest).receiver = s.receiver := rfl
@[simp] theorem State.endCopy_apply (dest : SweepState) : (s.endCopy dest).apply = s.apply := rfl
@[simp] theorem State.endCopy_pair (dest : SweepState) : (s.endCopy dest).pair = s.pair := rfl
@[simp] theorem State.endCopy_mgmt (dest : SweepState) : (s.endCopy dest).mgmt = s.mgmt := rfl
@[simp] theorem State.endCopy_alert (dest : SweepState) : (s.endCopy dest).alert = s.alert := rfl
@[simp] theorem State.endCopy_counters (dest : SweepState) : (s.endCopy dest).counters = s.counters := rfl

/-! `State.endSweepRead` -/

@[simp] theorem State.endSweepRead_pending : (s.endSweepRead).pending = s.pending := rfl
@[simp] theorem State.endSweepRead_freeIndex : (s.endSweepRead).freeIndex = s.freeIndex := rfl
@[simp] theorem State.endSweepRead_inReset : (s.endSweepRead).inReset = s.inReset := rfl
@[simp] theorem State.endSweepRead_lines : (s.endSweepRead).lines = s.lines := rfl
@[simp] theorem State.endSweepRead_wire : (s.endSweepRead).wire = s.wire := rfl
@[simp] theorem State.endSweepRead_role : (s.endSweepRead).role = s.role := rfl
@[simp] theorem State.endSweepRead_regions : (s.endSweepRead).regions = s.regions := rfl
@[simp] theorem State.endSweepRead_params : (s.endSweepRead).params = s.params := rfl
@[simp] theorem State.endSweepRead_host : (s.endSweepRead).host = s.host := rfl
@[simp] theorem State.endSweepRead_journal : (s.endSweepRead).journal = s.journal := rfl
@[simp] theorem State.endSweepRead_map : (s.endSweepRead).map = s.map := rfl
@[simp] theorem State.endSweepRead_link : (s.endSweepRead).link = s.link := rfl
@[simp] theorem State.endSweepRead_sender : (s.endSweepRead).sender = s.sender := rfl
@[simp] theorem State.endSweepRead_receiver : (s.endSweepRead).receiver = s.receiver := rfl
@[simp] theorem State.endSweepRead_apply : (s.endSweepRead).apply = s.apply := rfl
@[simp] theorem State.endSweepRead_pair : (s.endSweepRead).pair = s.pair := rfl
@[simp] theorem State.endSweepRead_mgmt : (s.endSweepRead).mgmt = s.mgmt := rfl
@[simp] theorem State.endSweepRead_alert : (s.endSweepRead).alert = s.alert := rfl
@[simp] theorem State.endSweepRead_counters : (s.endSweepRead).counters = s.counters := rfl

/-! `State.discardQueue` -/

@[simp] theorem State.discardQueue_pending : (s.discardQueue).pending = s.pending := rfl
@[simp] theorem State.discardQueue_freeIndex : (s.discardQueue).freeIndex = s.freeIndex := rfl
@[simp] theorem State.discardQueue_inReset : (s.discardQueue).inReset = s.inReset := rfl
@[simp] theorem State.discardQueue_lines : (s.discardQueue).lines = s.lines := rfl
@[simp] theorem State.discardQueue_wire : (s.discardQueue).wire = s.wire := rfl
@[simp] theorem State.discardQueue_role : (s.discardQueue).role = s.role := rfl
@[simp] theorem State.discardQueue_regions : (s.discardQueue).regions = s.regions := rfl
@[simp] theorem State.discardQueue_params : (s.discardQueue).params = s.params := rfl
@[simp] theorem State.discardQueue_host : (s.discardQueue).host = s.host := rfl
@[simp] theorem State.discardQueue_mem : (s.discardQueue).mem = s.mem := rfl
@[simp] theorem State.discardQueue_journal : (s.discardQueue).journal = s.journal := rfl
@[simp] theorem State.discardQueue_map : (s.discardQueue).map = s.map := rfl
@[simp] theorem State.discardQueue_sweep : (s.discardQueue).sweep = s.sweep := rfl
@[simp] theorem State.discardQueue_link : (s.discardQueue).link = s.link := rfl
@[simp] theorem State.discardQueue_sender : (s.discardQueue).sender = s.sender := rfl
@[simp] theorem State.discardQueue_pair : (s.discardQueue).pair = s.pair := rfl
@[simp] theorem State.discardQueue_mgmt : (s.discardQueue).mgmt = s.mgmt := rfl
@[simp] theorem State.discardQueue_alert : (s.discardQueue).alert = s.alert := rfl
@[simp] theorem State.discardQueue_counters : (s.discardQueue).counters = s.counters := rfl

/-! `State.freePort` -/

@[simp] theorem State.freePort_pending : (s.freePort).pending = s.pending := rfl
@[simp] theorem State.freePort_freeIndex : (s.freePort).freeIndex = s.freeIndex := rfl
@[simp] theorem State.freePort_inReset : (s.freePort).inReset = s.inReset := rfl
@[simp] theorem State.freePort_lines : (s.freePort).lines = s.lines := rfl
@[simp] theorem State.freePort_wire : (s.freePort).wire = s.wire := rfl
@[simp] theorem State.freePort_role : (s.freePort).role = s.role := rfl
@[simp] theorem State.freePort_regions : (s.freePort).regions = s.regions := rfl
@[simp] theorem State.freePort_params : (s.freePort).params = s.params := rfl
@[simp] theorem State.freePort_host : (s.freePort).host = s.host := rfl
@[simp] theorem State.freePort_journal : (s.freePort).journal = s.journal := rfl
@[simp] theorem State.freePort_map : (s.freePort).map = s.map := rfl
@[simp] theorem State.freePort_sweep : (s.freePort).sweep = s.sweep := rfl
@[simp] theorem State.freePort_link : (s.freePort).link = s.link := rfl
@[simp] theorem State.freePort_sender : (s.freePort).sender = s.sender := rfl
@[simp] theorem State.freePort_receiver : (s.freePort).receiver = s.receiver := rfl
@[simp] theorem State.freePort_apply : (s.freePort).apply = s.apply := rfl
@[simp] theorem State.freePort_pair : (s.freePort).pair = s.pair := rfl
@[simp] theorem State.freePort_mgmt : (s.freePort).mgmt = s.mgmt := rfl
@[simp] theorem State.freePort_alert : (s.freePort).alert = s.alert := rfl
@[simp] theorem State.freePort_counters : (s.freePort).counters = s.counters := rfl

/-! `State.startMemory` -/

@[simp] theorem State.startMemory_pending (o : PortOwner) (t : BusTxn) : (s.startMemory o t).pending = s.pending := rfl
@[simp] theorem State.startMemory_freeIndex (o : PortOwner) (t : BusTxn) : (s.startMemory o t).freeIndex = s.freeIndex := rfl
@[simp] theorem State.startMemory_inReset (o : PortOwner) (t : BusTxn) : (s.startMemory o t).inReset = s.inReset := rfl
@[simp] theorem State.startMemory_lines (o : PortOwner) (t : BusTxn) : (s.startMemory o t).lines = s.lines := rfl
@[simp] theorem State.startMemory_wire (o : PortOwner) (t : BusTxn) : (s.startMemory o t).wire = s.wire := rfl
@[simp] theorem State.startMemory_role (o : PortOwner) (t : BusTxn) : (s.startMemory o t).role = s.role := rfl
@[simp] theorem State.startMemory_regions (o : PortOwner) (t : BusTxn) : (s.startMemory o t).regions = s.regions := rfl
@[simp] theorem State.startMemory_params (o : PortOwner) (t : BusTxn) : (s.startMemory o t).params = s.params := rfl
@[simp] theorem State.startMemory_host (o : PortOwner) (t : BusTxn) : (s.startMemory o t).host = s.host := rfl
@[simp] theorem State.startMemory_journal (o : PortOwner) (t : BusTxn) : (s.startMemory o t).journal = s.journal := rfl
@[simp] theorem State.startMemory_map (o : PortOwner) (t : BusTxn) : (s.startMemory o t).map = s.map := rfl
@[simp] theorem State.startMemory_sweep (o : PortOwner) (t : BusTxn) : (s.startMemory o t).sweep = s.sweep := rfl
@[simp] theorem State.startMemory_link (o : PortOwner) (t : BusTxn) : (s.startMemory o t).link = s.link := rfl
@[simp] theorem State.startMemory_sender (o : PortOwner) (t : BusTxn) : (s.startMemory o t).sender = s.sender := rfl
@[simp] theorem State.startMemory_receiver (o : PortOwner) (t : BusTxn) : (s.startMemory o t).receiver = s.receiver := rfl
@[simp] theorem State.startMemory_apply (o : PortOwner) (t : BusTxn) : (s.startMemory o t).apply = s.apply := rfl
@[simp] theorem State.startMemory_pair (o : PortOwner) (t : BusTxn) : (s.startMemory o t).pair = s.pair := rfl
@[simp] theorem State.startMemory_mgmt (o : PortOwner) (t : BusTxn) : (s.startMemory o t).mgmt = s.mgmt := rfl
@[simp] theorem State.startMemory_alert (o : PortOwner) (t : BusTxn) : (s.startMemory o t).alert = s.alert := rfl
@[simp] theorem State.startMemory_counters (o : PortOwner) (t : BusTxn) : (s.startMemory o t).counters = s.counters := rfl

/-! `State.restartCounts` -/

@[simp] theorem State.restartCounts_pending : (s.restartCounts).pending = s.pending := rfl
@[simp] theorem State.restartCounts_freeIndex : (s.restartCounts).freeIndex = s.freeIndex := rfl
@[simp] theorem State.restartCounts_inReset : (s.restartCounts).inReset = s.inReset := rfl
@[simp] theorem State.restartCounts_lines : (s.restartCounts).lines = s.lines := rfl
@[simp] theorem State.restartCounts_wire : (s.restartCounts).wire = s.wire := rfl
@[simp] theorem State.restartCounts_role : (s.restartCounts).role = s.role := rfl
@[simp] theorem State.restartCounts_regions : (s.restartCounts).regions = s.regions := rfl
@[simp] theorem State.restartCounts_params : (s.restartCounts).params = s.params := rfl
@[simp] theorem State.restartCounts_host : (s.restartCounts).host = s.host := rfl
@[simp] theorem State.restartCounts_journal : (s.restartCounts).journal = s.journal := rfl
@[simp] theorem State.restartCounts_map : (s.restartCounts).map = s.map := rfl
@[simp] theorem State.restartCounts_sweep : (s.restartCounts).sweep = s.sweep := rfl
@[simp] theorem State.restartCounts_link : (s.restartCounts).link = s.link := rfl
@[simp] theorem State.restartCounts_sender : (s.restartCounts).sender = s.sender := rfl
@[simp] theorem State.restartCounts_receiver : (s.restartCounts).receiver = s.receiver := rfl
@[simp] theorem State.restartCounts_apply : (s.restartCounts).apply = s.apply := rfl
@[simp] theorem State.restartCounts_pair : (s.restartCounts).pair = s.pair := rfl
@[simp] theorem State.restartCounts_mgmt : (s.restartCounts).mgmt = s.mgmt := rfl
@[simp] theorem State.restartCounts_alert : (s.restartCounts).alert = s.alert := rfl
@[simp] theorem State.restartCounts_counters : (s.restartCounts).counters = s.counters := rfl

/-! `State.forward` -/

@[simp] theorem State.forward_pending (t : BusTxn) : (s.forward t).pending = s.pending := rfl
@[simp] theorem State.forward_freeIndex (t : BusTxn) : (s.forward t).freeIndex = s.freeIndex := rfl
@[simp] theorem State.forward_inReset (t : BusTxn) : (s.forward t).inReset = s.inReset := rfl
@[simp] theorem State.forward_lines (t : BusTxn) : (s.forward t).lines = s.lines := rfl
@[simp] theorem State.forward_wire (t : BusTxn) : (s.forward t).wire = s.wire := rfl
@[simp] theorem State.forward_role (t : BusTxn) : (s.forward t).role = s.role := rfl
@[simp] theorem State.forward_regions (t : BusTxn) : (s.forward t).regions = s.regions := rfl
@[simp] theorem State.forward_params (t : BusTxn) : (s.forward t).params = s.params := rfl
@[simp] theorem State.forward_journal (t : BusTxn) : (s.forward t).journal = s.journal := rfl
@[simp] theorem State.forward_map (t : BusTxn) : (s.forward t).map = s.map := rfl
@[simp] theorem State.forward_sweep (t : BusTxn) : (s.forward t).sweep = s.sweep := rfl
@[simp] theorem State.forward_link (t : BusTxn) : (s.forward t).link = s.link := rfl
@[simp] theorem State.forward_sender (t : BusTxn) : (s.forward t).sender = s.sender := rfl
@[simp] theorem State.forward_receiver (t : BusTxn) : (s.forward t).receiver = s.receiver := rfl
@[simp] theorem State.forward_apply (t : BusTxn) : (s.forward t).apply = s.apply := rfl
@[simp] theorem State.forward_pair (t : BusTxn) : (s.forward t).pair = s.pair := rfl
@[simp] theorem State.forward_mgmt (t : BusTxn) : (s.forward t).mgmt = s.mgmt := rfl
@[simp] theorem State.forward_alert (t : BusTxn) : (s.forward t).alert = s.alert := rfl
@[simp] theorem State.forward_counters (t : BusTxn) : (s.forward t).counters = s.counters := rfl

/-! `State.replied` -/

@[simp] theorem State.replied_pending (code : Byte) (args : List Byte) (r : ResultCode) (resp : List Byte) : (s.replied code args r resp).pending = s.pending := rfl
@[simp] theorem State.replied_freeIndex (code : Byte) (args : List Byte) (r : ResultCode) (resp : List Byte) : (s.replied code args r resp).freeIndex = s.freeIndex := rfl
@[simp] theorem State.replied_inReset (code : Byte) (args : List Byte) (r : ResultCode) (resp : List Byte) : (s.replied code args r resp).inReset = s.inReset := rfl
@[simp] theorem State.replied_lines (code : Byte) (args : List Byte) (r : ResultCode) (resp : List Byte) : (s.replied code args r resp).lines = s.lines := rfl
@[simp] theorem State.replied_wire (code : Byte) (args : List Byte) (r : ResultCode) (resp : List Byte) : (s.replied code args r resp).wire = s.wire := rfl
@[simp] theorem State.replied_role (code : Byte) (args : List Byte) (r : ResultCode) (resp : List Byte) : (s.replied code args r resp).role = s.role := rfl
@[simp] theorem State.replied_regions (code : Byte) (args : List Byte) (r : ResultCode) (resp : List Byte) : (s.replied code args r resp).regions = s.regions := rfl
@[simp] theorem State.replied_params (code : Byte) (args : List Byte) (r : ResultCode) (resp : List Byte) : (s.replied code args r resp).params = s.params := rfl
@[simp] theorem State.replied_host (code : Byte) (args : List Byte) (r : ResultCode) (resp : List Byte) : (s.replied code args r resp).host = s.host := rfl
@[simp] theorem State.replied_mem (code : Byte) (args : List Byte) (r : ResultCode) (resp : List Byte) : (s.replied code args r resp).mem = s.mem := rfl
@[simp] theorem State.replied_journal (code : Byte) (args : List Byte) (r : ResultCode) (resp : List Byte) : (s.replied code args r resp).journal = s.journal := rfl
@[simp] theorem State.replied_map (code : Byte) (args : List Byte) (r : ResultCode) (resp : List Byte) : (s.replied code args r resp).map = s.map := rfl
@[simp] theorem State.replied_sweep (code : Byte) (args : List Byte) (r : ResultCode) (resp : List Byte) : (s.replied code args r resp).sweep = s.sweep := rfl
@[simp] theorem State.replied_link (code : Byte) (args : List Byte) (r : ResultCode) (resp : List Byte) : (s.replied code args r resp).link = s.link := rfl
@[simp] theorem State.replied_sender (code : Byte) (args : List Byte) (r : ResultCode) (resp : List Byte) : (s.replied code args r resp).sender = s.sender := rfl
@[simp] theorem State.replied_receiver (code : Byte) (args : List Byte) (r : ResultCode) (resp : List Byte) : (s.replied code args r resp).receiver = s.receiver := rfl
@[simp] theorem State.replied_apply (code : Byte) (args : List Byte) (r : ResultCode) (resp : List Byte) : (s.replied code args r resp).apply = s.apply := rfl
@[simp] theorem State.replied_pair (code : Byte) (args : List Byte) (r : ResultCode) (resp : List Byte) : (s.replied code args r resp).pair = s.pair := rfl
@[simp] theorem State.replied_alert (code : Byte) (args : List Byte) (r : ResultCode) (resp : List Byte) : (s.replied code args r resp).alert = s.alert := rfl
@[simp] theorem State.replied_counters (code : Byte) (args : List Byte) (r : ResultCode) (resp : List Byte) : (s.replied code args r resp).counters = s.counters := rfl

/-! The fields an update names -/

@[simp] theorem State.bump_counters (c : Counter) : (s.bump c).counters = s.counters.set c.index (saturatingSucc (s.counter c)) := rfl
@[simp] theorem State.report_enables (c : AlertCause) : (s.report c).alert.enables = s.alert.enables := rfl
@[simp] theorem State.report_causes (c : AlertCause) : (s.report c).alert.causes = s.alert.causes.set c.index (s.cause c).occur := rfl
@[simp] theorem State.answer_host (a : HostAnswer) : (s.answer a).host = { HostPort.idle with answer := some a } := rfl
@[simp] theorem State.dropHost_host : s.dropHost.host = HostPort.idle := rfl
@[simp] theorem State.toPortWait_host (b : Bool) : (s.toPortWait b).host = { s.host with state := .portWait, claim := b, timer := none } := rfl
@[simp] theorem State.clearWaiter_journal : s.clearWaiter.journal = { s.journal with records := s.journal.records.map fun r => { r with waiter := false } } := rfl
@[simp] theorem State.enterScanning_sweep : s.enterScanning.sweep = { s.sweep with state := if s.map.count = 0 then .idle else .scanning } := rfl
@[simp] theorem State.fillMap_map : s.fillMap.map = { flags := mirroredBlocks s.regions, count := (mirroredBlocks s.regions).length, cursor := 0 } := rfl
@[simp] theorem State.appendRecord_journal (r : Record) : (s.appendRecord r).journal = { s.journal with records := s.journal.records ++ [r] } := rfl
@[simp] theorem State.changeTail_journal (f : Record → Record) : (s.changeTail f).journal = { s.journal with records := changeLast f s.journal.records } := rfl
@[simp] theorem State.fillPlaceholder_journal (d : LineBytes) : (s.fillPlaceholder d).journal = { s.journal with records := s.journal.records.map (Record.fill d) } := rfl
@[simp] theorem State.rewind_journal : s.rewind.journal = { s.journal with records := s.journal.records.map Record.rewind } := rfl
@[simp] theorem State.lineFill_freeIndex : s.lineFill.freeIndex = s.freeIndex + 1 := rfl
@[simp] theorem State.lineFill_wire :
    s.lineFill.wire = { s.wire with sent := 0, fillDue := Config.moreFill s.freeIndex + 1 } := rfl
@[simp] theorem State.startRetx_sender : s.startRetx.sender = { s.sender with timer := some s.params.retxInterval } := rfl
@[simp] theorem State.stopRetx_sender : s.stopRetx.sender = { s.sender with timer := none } := rfl
@[simp] theorem State.resetSender_sender : s.resetSender.sender = Sender.powerOn := rfl
@[simp] theorem State.transmit_link (f : LinkFrame) (d : Due) : (s.transmit f d).link = { s.link with tx := some f, due := d } := rfl
@[simp] theorem State.setLink_state (dest : LinkState) : (s.setLink dest).link.state = dest := rfl
@[simp] theorem State.setLink_due (dest : LinkState) : (s.setLink dest).link.due = s.link.due.keep dest := rfl
@[simp] theorem State.setLink_tx (dest : LinkState) : (s.setLink dest).link.tx = s.link.tx := rfl
@[simp] theorem State.restartSilence_link : s.restartSilence.link = { s.link with silence := some s.params.silenceLimit } := rfl
@[simp] theorem State.dueHalt_link (r : HaltReason) : (s.dueHalt r).link = { s.link with due := { s.link.due with halt := some r }, haltRecord := some ⟨r, .sent⟩ } := rfl
@[simp] theorem State.endCopy_sweep (dest : SweepState) : (s.endCopy dest).sweep = { s.sweep with state := dest, copy := none, request := false, stopPending := false } := rfl
@[simp] theorem State.endSweepRead_mem : s.endSweepRead.mem = { s.mem with use := none } := rfl
@[simp] theorem State.endSweepRead_sweep : s.endSweepRead.sweep = { s.sweep with read := none } := rfl
@[simp] theorem State.discardQueue_receiver : s.discardQueue.receiver = { s.receiver with queue := [] } := rfl
@[simp] theorem State.discardQueue_apply : s.discardQueue.apply = ApplyEngine.idle := rfl
@[simp] theorem State.freePort_mem : s.freePort.mem = { s.mem with use := none } := rfl
@[simp] theorem State.startMemory_mem (o : PortOwner) (t : BusTxn) : (s.startMemory o t).mem = { s.mem with use := some ⟨o, t, s.params.memLimit⟩ } := rfl
@[simp] theorem State.restartCounts_mem : s.restartCounts.mem = { s.mem with sweepWait := 0, applyRun := 0 } := rfl
@[simp] theorem State.replied_mgmt (code : Byte) (args : List Byte) (r : ResultCode) (resp : List Byte) : (s.replied code args r resp).mgmt = Mgmt.taken code args r resp := rfl

end Sys2Proof.Machine
end

