-- ==== Sys2Proof/Laws/Ops.lean ====
section
/-! SUPPORT. One lemma for each shared operation that says which fields it can change: the state it leaves is the state it was given with
only those fields taken from the result. And what the operations do in each of their cases. -/

namespace Sys2Proof.Machine

open Sys2Proof

/-! ## Moments -/

theorem State.awake_of_runs {s : State} (h : s.Runs) (k : Result) : s.awake k = k := by simp [State.awake, h]

theorem State.awake_of_inReset {s : State} (h : s.inReset = true) (k : Result) : s.awake k = .next s := by simp [State.awake, h]

/-- A command the port takes gives its reply. -/
theorem State.takeCommand_of_takes {s : State} {code : Byte} {args : List Byte} (h : s.Takes code args) (act : State → Reply) :
    s.takeCommand code args act = .next ((act s).state.replied code args (act s).code (act s).response) := by
  simp [State.takeCommand, State.awake, h.1, h.2, State.replied, Mgmt.taken]

/-- A port in no frame takes every command. -/
theorem State.takes_of_deselected {s : State} (h : s.Runs) (hp : s.mgmt.phase = .deselected) (code : Byte) (args : List Byte) :
    s.Takes code args := by simp [State.Takes, Mgmt.awaits, hp, h]

/-- A frame's bytes that fail a check are counted. -/
theorem State.receive_of_invalid {s : State} (h : s.Runs) (hl : s.link.state ≠ .off) (k : FrameType) (bytes : List Byte)
    (act : LinkFrame → State → State) (hc : checkFrame bytes = none) : s.receive k bytes act = .next (s.bump .framesDiscarded) := by
  simp [State.receive, State.awake, h, hl, hc]

/-- A valid frame of the command's type acts, after the silence timer restarts in UP. -/
theorem State.receive_of_valid {s : State} (h : s.Runs) (hl : s.link.state ≠ .off) (bytes : List Byte) (f : LinkFrame)
    (act : LinkFrame → State → State) (hc : checkFrame bytes = some f) :
    s.receive f.type bytes act = .next (act f (if s.linkUp then s.restartSilence else s)) := by
  simp [State.receive, State.awake, h, hl, hc]

/-! ## Frames of the shared operations -/

theorem State.derivePair_frame (s : State) : s.derivePair = { s with pair := s.derivePair.pair, alert := s.derivePair.alert } := by
  simp only [State.derivePair]
  split
  · rfl
  · split <;> rfl

/-- The pair state a derivation leaves is the one Table 7.2 gives of the state it was made on. -/
theorem State.derivePair_state (s : State) : s.derivePair.pair = { s.pair with state := s.derivedPair } := by
  simp only [State.derivePair]
  split
  · rfl
  · split <;> rfl

theorem State.sweepFall_frame (s : State) : s.sweepFall = { s with sweep := s.sweepFall.sweep, mem := s.sweepFall.mem } := by
  unfold State.sweepFall
  split <;> rfl

theorem State.sweepRise_frame (s : State) : s.sweepRise = { s with sweep := s.sweepRise.sweep } := by
  unfold State.sweepRise
  split <;> rfl

theorem State.retestHost_frame (s : State) :
    s.retestHost = { s with host := s.retestHost.host, sweep := s.retestHost.sweep, mem := s.retestHost.mem } := by
  unfold State.retestHost
  split
  · split
    · rfl
    · unfold State.sweepFall
      split <;> rfl
    · rfl
    · rfl
    · rfl
  · rfl

/-- A port that is not in SPACE_WAIT makes no test again. -/
theorem State.retestHost_of_not_waiting (s : State) (h : s.host.state ≠ .spaceWait) : s.retestHost = s := by
  unfold State.retestHost
  split
  · next hw _ _ => exact absurd hw h
  · rfl

theorem State.announceRise_frame (s : State) :
    s.announceRise = { s with host := s.announceRise.host, sweep := s.announceRise.sweep, mem := s.announceRise.mem } := by
  unfold State.announceRise
  rw [State.sweepRise_frame, State.retestHost_frame]

theorem State.releaseClaim_frame (s : State) :
    s.releaseClaim = { s with host := s.releaseClaim.host, sweep := s.releaseClaim.sweep, mem := s.releaseClaim.mem } := by
  unfold State.releaseClaim
  split
  · rw [State.announceRise_frame]
  · rfl

theorem State.releaseHold_frame (s : State) : s.releaseHold = { s with host := s.releaseHold.host } := by
  unfold State.releaseHold
  split <;> rfl

theorem State.autoStart_frame (s : State) : s.autoStart = { s with sweep := s.autoStart.sweep } := by
  unfold State.autoStart
  split <;> rfl

theorem State.setFlags_frame (bs : List Block) (s : State) :
    s.setFlags bs = { s with map := (s.setFlags bs).map, sweep := (s.setFlags bs).sweep } := by
  unfold State.setFlags
  split
  · rfl
  · dsimp only
    split
    · rw [State.autoStart_frame]
    · rfl

/-- On a primary the flags asked for are set, one after another. -/
theorem State.setFlags_map (bs : List Block) (s : State) (h : s.role = .primary) : (s.setFlags bs).map = bs.foldl DirtyMap.set s.map := by
  unfold State.setFlags
  rw [if_neg (by simp [h])]
  dsimp only
  split
  · rw [State.autoStart_frame]
  · rfl

/-- In any other role the map takes no request. -/
theorem State.setFlags_of_not_primary (bs : List Block) (s : State) (h : s.role ≠ .primary) : s.setFlags bs = s := by
  unfold State.setFlags
  rw [if_pos h]

theorem State.markDirty_frame (bs : List Block) (s : State) :
    s.markDirty bs =
      { s with map := (s.markDirty bs).map, sweep := (s.markDirty bs).sweep, pair := (s.markDirty bs).pair,
               alert := (s.markDirty bs).alert } := by
  cases bs with
  | nil => rfl
  | cons b rest =>
    simp only [State.markDirty]
    rw [State.derivePair_frame, State.setFlags_frame]

theorem State.waterTest_frame (s : State) : s.waterTest = { s with journal := s.waterTest.journal, alert := s.waterTest.alert } := by
  unfold State.waterTest
  split
  · split <;> rfl
  · split <;> rfl

theorem State.waterTest_records (s : State) : s.waterTest.journal.records = s.journal.records := by
  unfold State.waterTest
  split
  · split <;> rfl
  · split <;> rfl

theorem State.withdrawRequest_frame (s : State) :
    s.withdrawRequest = { s with sweep := s.withdrawRequest.sweep, mem := s.withdrawRequest.mem } := by
  unfold State.withdrawRequest
  split <;> rfl

theorem State.remarkCopy_frame (s : State) : s.remarkCopy = { s with map := s.remarkCopy.map, sweep := s.remarkCopy.sweep } := by
  unfold State.remarkCopy
  split
  · exact State.setFlags_frame _ _
  · rfl

theorem State.withdrawPlaceholder_frame (s : State) :
    s.withdrawPlaceholder =
      { s with journal := s.withdrawPlaceholder.journal, map := s.withdrawPlaceholder.map, sweep := s.withdrawPlaceholder.sweep } := by
  unfold State.withdrawPlaceholder
  dsimp only
  rw [State.setFlags_frame]

theorem State.markerReached_frame (s : State) : s.markerReached = { s with pair := s.markerReached.pair, alert := s.markerReached.alert } := by
  unfold State.markerReached
  split <;> rfl

theorem failTags_frame (ts : List Tag) (s : State) :
    failTags ts s = { s with pair := (failTags ts s).pair, alert := (failTags ts s).alert } := by
  induction ts generalizing s with
  | nil => rfl
  | cons t rest ih =>
    simp only [failTags]
    rw [ih]
    rfl

theorem State.failMarkers_frame (s : State) : s.failMarkers = { s with pair := s.failMarkers.pair, alert := s.failMarkers.alert } := by
  unfold State.failMarkers
  rw [failTags_frame]

theorem State.handOff_frame (r : Record) (s : State) :
    s.handOff r = { s with host := (s.handOff r).host, pair := (s.handOff r).pair, alert := (s.handOff r).alert } := by
  unfold State.handOff
  split
  · rw [State.markerReached_frame]
  · split
    · rw [State.releaseHold_frame]
    · rfl

theorem removeHead_frame (n : Nat) (s : State) :
    removeHead n s =
      { s with journal := (removeHead n s).journal, host := (removeHead n s).host, pair := (removeHead n s).pair,
               alert := (removeHead n s).alert } := by
  induction n generalizing s with
  | zero => rfl
  | succ n ih =>
    unfold removeHead
    split
    · rfl
    · rw [ih, State.handOff_frame]

/-- The records a removal leaves are those behind the ones it takes. -/
theorem removeHead_records (n : Nat) (s : State) : (removeHead n s).journal.records = s.journal.records.drop n := by
  induction n generalizing s with
  | zero => rfl
  | succ n ih =>
    unfold removeHead
    split
    · next h => simp [h]
    · next r rest h => rw [ih, State.handOff_frame, h]; rfl

theorem State.remove_frame (n : Nat) (s : State) :
    s.remove n =
      { s with journal := (s.remove n).journal, host := (s.remove n).host, pair := (s.remove n).pair, alert := (s.remove n).alert,
               sweep := (s.remove n).sweep, mem := (s.remove n).mem } := by
  unfold State.remove
  split
  · rfl
  · rw [State.waterTest_frame, State.announceRise_frame, removeHead_frame]

theorem State.progress_frame (s : State) : s.progress = { s with sender := s.progress.sender } := by
  unfold State.progress
  dsimp only
  split <;> rfl

theorem State.recordSent_frame (rs : List Record) (s : State) :
    s.recordSent rs =
      { s with journal := (s.recordSent rs).journal, sender := (s.recordSent rs).sender, counters := (s.recordSent rs).counters } := by
  unfold State.recordSent
  dsimp only
  split <;> rfl

theorem State.dataFrame_frame (s : State) (f : LinkFrame) (t : State) (h : s.dataFrame = some (f, t)) :
    t = { s with journal := t.journal, sender := t.sender, counters := t.counters } := by
  unfold State.dataFrame at h
  split at h
  · cases h
  · split at h
    · cases h
      rfl
    · split at h
      · cases h
      · obtain ⟨p, -, hp⟩ := Option.map_eq_some_iff.mp h
        cases hp
        rw [State.recordSent_frame]

theorem State.kick_frame (s : State) :
    s.kick =
      { s with link := s.kick.link, journal := s.kick.journal, sender := s.kick.sender, counters := s.kick.counters } := by
  unfold State.kick
  dsimp only
  split
  · rfl
  · split
    · rfl
    · split
      · rfl
      · split
        · rfl
        · split
          · rfl
          · split
            · rfl
            · split
              · rfl
              · split
                · next f t h => rw [State.dataFrame_frame s f t h]; rfl
                · split <;> rfl

/-- A busy transmitter begins nothing. -/
theorem State.kick_of_busy (s : State) (h : s.link.tx.isSome = true) : s.kick = s := by
  unfold State.kick
  dsimp only
  rw [if_pos h]

theorem State.finish_frame (s : State) :
    s.finish =
      { s with pair := s.finish.pair, alert := s.finish.alert, link := s.finish.link, journal := s.finish.journal,
               sender := s.finish.sender, counters := s.finish.counters } := by
  unfold State.finish
  rw [State.kick_frame, State.derivePair_frame]

theorem State.sweepLinkDown_frame (s : State) :
    s.sweepLinkDown = { s with map := s.sweepLinkDown.map, sweep := s.sweepLinkDown.sweep, mem := s.sweepLinkDown.mem } := by
  unfold State.sweepLinkDown
  split
  · rfl
  · rfl
  · dsimp only
    unfold State.endCopy
    rw [State.withdrawRequest_frame, State.remarkCopy_frame]

theorem State.recordApplied_frame (r : QueueRecord) (s : State) :
    s.recordApplied r =
      { s with receiver := { s.receiver with appliedThrough := r.seq }, counters := (s.bump .recordsApplied).counters,
               link := (s.recordApplied r).link } := by
  unfold State.recordApplied
  dsimp only
  split <;> rfl

theorem takeQueue_frame (q : List QueueRecord) (s : State) :
    takeQueue q s =
      { s with receiver := (takeQueue q s).receiver, counters := (takeQueue q s).counters, link := (takeQueue q s).link,
               apply := (takeQueue q s).apply } := by
  induction q generalizing s with
  | nil => rfl
  | cons r rest ih =>
    unfold takeQueue
    split
    · rw [ih, State.recordApplied_frame]
    · rfl

theorem State.endPromotion_frame (s : State) :
    s.endPromotion = { s with role := s.endPromotion.role, mem := s.endPromotion.mem, alert := s.endPromotion.alert } := by
  unfold State.endPromotion
  split <;> rfl

/-! ## The fields an operation leaves alone, one by one -/

@[simp] theorem State.derivePair_pending (s : State) : s.derivePair.pending = s.pending := by rw [State.derivePair_frame]
@[simp] theorem State.derivePair_freeIndex (s : State) : s.derivePair.freeIndex = s.freeIndex := by rw [State.derivePair_frame]
@[simp] theorem State.derivePair_inReset (s : State) : s.derivePair.inReset = s.inReset := by rw [State.derivePair_frame]
@[simp] theorem State.derivePair_lines (s : State) : s.derivePair.lines = s.lines := by rw [State.derivePair_frame]
@[simp] theorem State.derivePair_wire (s : State) : s.derivePair.wire = s.wire := by rw [State.derivePair_frame]
@[simp] theorem State.derivePair_role (s : State) : s.derivePair.role = s.role := by rw [State.derivePair_frame]
@[simp] theorem State.derivePair_regions (s : State) : s.derivePair.regions = s.regions := by rw [State.derivePair_frame]
@[simp] theorem State.derivePair_params (s : State) : s.derivePair.params = s.params := by rw [State.derivePair_frame]
@[simp] theorem State.derivePair_host (s : State) : s.derivePair.host = s.host := by rw [State.derivePair_frame]
@[simp] theorem State.derivePair_mem (s : State) : s.derivePair.mem = s.mem := by rw [State.derivePair_frame]
@[simp] theorem State.derivePair_journal (s : State) : s.derivePair.journal = s.journal := by rw [State.derivePair_frame]
@[simp] theorem State.derivePair_map (s : State) : s.derivePair.map = s.map := by rw [State.derivePair_frame]
@[simp] theorem State.derivePair_sweep (s : State) : s.derivePair.sweep = s.sweep := by rw [State.derivePair_frame]
@[simp] theorem State.derivePair_link (s : State) : s.derivePair.link = s.link := by rw [State.derivePair_frame]
@[simp] theorem State.derivePair_sender (s : State) : s.derivePair.sender = s.sender := by rw [State.derivePair_frame]
@[simp] theorem State.derivePair_receiver (s : State) : s.derivePair.receiver = s.receiver := by rw [State.derivePair_frame]
@[simp] theorem State.derivePair_apply (s : State) : s.derivePair.apply = s.apply := by rw [State.derivePair_frame]
@[simp] theorem State.derivePair_mgmt (s : State) : s.derivePair.mgmt = s.mgmt := by rw [State.derivePair_frame]
@[simp] theorem State.derivePair_counters (s : State) : s.derivePair.counters = s.counters := by rw [State.derivePair_frame]

@[simp] theorem State.sweepFall_pending (s : State) : s.sweepFall.pending = s.pending := by rw [State.sweepFall_frame]
@[simp] theorem State.sweepFall_freeIndex (s : State) : s.sweepFall.freeIndex = s.freeIndex := by rw [State.sweepFall_frame]
@[simp] theorem State.sweepFall_inReset (s : State) : s.sweepFall.inReset = s.inReset := by rw [State.sweepFall_frame]
@[simp] theorem State.sweepFall_lines (s : State) : s.sweepFall.lines = s.lines := by rw [State.sweepFall_frame]
@[simp] theorem State.sweepFall_wire (s : State) : s.sweepFall.wire = s.wire := by rw [State.sweepFall_frame]
@[simp] theorem State.sweepFall_role (s : State) : s.sweepFall.role = s.role := by rw [State.sweepFall_frame]
@[simp] theorem State.sweepFall_regions (s : State) : s.sweepFall.regions = s.regions := by rw [State.sweepFall_frame]
@[simp] theorem State.sweepFall_params (s : State) : s.sweepFall.params = s.params := by rw [State.sweepFall_frame]
@[simp] theorem State.sweepFall_host (s : State) : s.sweepFall.host = s.host := by rw [State.sweepFall_frame]
@[simp] theorem State.sweepFall_journal (s : State) : s.sweepFall.journal = s.journal := by rw [State.sweepFall_frame]
@[simp] theorem State.sweepFall_map (s : State) : s.sweepFall.map = s.map := by rw [State.sweepFall_frame]
@[simp] theorem State.sweepFall_link (s : State) : s.sweepFall.link = s.link := by rw [State.sweepFall_frame]
@[simp] theorem State.sweepFall_sender (s : State) : s.sweepFall.sender = s.sender := by rw [State.sweepFall_frame]
@[simp] theorem State.sweepFall_receiver (s : State) : s.sweepFall.receiver = s.receiver := by rw [State.sweepFall_frame]
@[simp] theorem State.sweepFall_apply (s : State) : s.sweepFall.apply = s.apply := by rw [State.sweepFall_frame]
@[simp] theorem State.sweepFall_pair (s : State) : s.sweepFall.pair = s.pair := by rw [State.sweepFall_frame]
@[simp] theorem State.sweepFall_mgmt (s : State) : s.sweepFall.mgmt = s.mgmt := by rw [State.sweepFall_frame]
@[simp] theorem State.sweepFall_alert (s : State) : s.sweepFall.alert = s.alert := by rw [State.sweepFall_frame]
@[simp] theorem State.sweepFall_counters (s : State) : s.sweepFall.counters = s.counters := by rw [State.sweepFall_frame]

@[simp] theorem State.sweepRise_pending (s : State) : s.sweepRise.pending = s.pending := by rw [State.sweepRise_frame]
@[simp] theorem State.sweepRise_freeIndex (s : State) : s.sweepRise.freeIndex = s.freeIndex := by rw [State.sweepRise_frame]
@[simp] theorem State.sweepRise_inReset (s : State) : s.sweepRise.inReset = s.inReset := by rw [State.sweepRise_frame]
@[simp] theorem State.sweepRise_lines (s : State) : s.sweepRise.lines = s.lines := by rw [State.sweepRise_frame]
@[simp] theorem State.sweepRise_wire (s : State) : s.sweepRise.wire = s.wire := by rw [State.sweepRise_frame]
@[simp] theorem State.sweepRise_role (s : State) : s.sweepRise.role = s.role := by rw [State.sweepRise_frame]
@[simp] theorem State.sweepRise_regions (s : State) : s.sweepRise.regions = s.regions := by rw [State.sweepRise_frame]
@[simp] theorem State.sweepRise_params (s : State) : s.sweepRise.params = s.params := by rw [State.sweepRise_frame]
@[simp] theorem State.sweepRise_host (s : State) : s.sweepRise.host = s.host := by rw [State.sweepRise_frame]
@[simp] theorem State.sweepRise_mem (s : State) : s.sweepRise.mem = s.mem := by rw [State.sweepRise_frame]
@[simp] theorem State.sweepRise_journal (s : State) : s.sweepRise.journal = s.journal := by rw [State.sweepRise_frame]
@[simp] theorem State.sweepRise_map (s : State) : s.sweepRise.map = s.map := by rw [State.sweepRise_frame]
@[simp] theorem State.sweepRise_link (s : State) : s.sweepRise.link = s.link := by rw [State.sweepRise_frame]
@[simp] theorem State.sweepRise_sender (s : State) : s.sweepRise.sender = s.sender := by rw [State.sweepRise_frame]
@[simp] theorem State.sweepRise_receiver (s : State) : s.sweepRise.receiver = s.receiver := by rw [State.sweepRise_frame]
@[simp] theorem State.sweepRise_apply (s : State) : s.sweepRise.apply = s.apply := by rw [State.sweepRise_frame]
@[simp] theorem State.sweepRise_pair (s : State) : s.sweepRise.pair = s.pair := by rw [State.sweepRise_frame]
@[simp] theorem State.sweepRise_mgmt (s : State) : s.sweepRise.mgmt = s.mgmt := by rw [State.sweepRise_frame]
@[simp] theorem State.sweepRise_alert (s : State) : s.sweepRise.alert = s.alert := by rw [State.sweepRise_frame]
@[simp] theorem State.sweepRise_counters (s : State) : s.sweepRise.counters = s.counters := by rw [State.sweepRise_frame]

@[simp] theorem State.retestHost_pending (s : State) : s.retestHost.pending = s.pending := by rw [State.retestHost_frame]
@[simp] theorem State.retestHost_freeIndex (s : State) : s.retestHost.freeIndex = s.freeIndex := by rw [State.retestHost_frame]
@[simp] theorem State.retestHost_inReset (s : State) : s.retestHost.inReset = s.inReset := by rw [State.retestHost_frame]
@[simp] theorem State.retestHost_lines (s : State) : s.retestHost.lines = s.lines := by rw [State.retestHost_frame]
@[simp] theorem State.retestHost_wire (s : State) : s.retestHost.wire = s.wire := by rw [State.retestHost_frame]
@[simp] theorem State.retestHost_role (s : State) : s.retestHost.role = s.role := by rw [State.retestHost_frame]
@[simp] theorem State.retestHost_regions (s : State) : s.retestHost.regions = s.regions := by rw [State.retestHost_frame]
@[simp] theorem State.retestHost_params (s : State) : s.retestHost.params = s.params := by rw [State.retestHost_frame]
@[simp] theorem State.retestHost_journal (s : State) : s.retestHost.journal = s.journal := by rw [State.retestHost_frame]
@[simp] theorem State.retestHost_map (s : State) : s.retestHost.map = s.map := by rw [State.retestHost_frame]
@[simp] theorem State.retestHost_link (s : State) : s.retestHost.link = s.link := by rw [State.retestHost_frame]
@[simp] theorem State.retestHost_sender (s : State) : s.retestHost.sender = s.sender := by rw [State.retestHost_frame]
@[simp] theorem State.retestHost_receiver (s : State) : s.retestHost.receiver = s.receiver := by rw [State.retestHost_frame]
@[simp] theorem State.retestHost_apply (s : State) : s.retestHost.apply = s.apply := by rw [State.retestHost_frame]
@[simp] theorem State.retestHost_pair (s : State) : s.retestHost.pair = s.pair := by rw [State.retestHost_frame]
@[simp] theorem State.retestHost_mgmt (s : State) : s.retestHost.mgmt = s.mgmt := by rw [State.retestHost_frame]
@[simp] theorem State.retestHost_alert (s : State) : s.retestHost.alert = s.alert := by rw [State.retestHost_frame]
@[simp] theorem State.retestHost_counters (s : State) : s.retestHost.counters = s.counters := by rw [State.retestHost_frame]

@[simp] theorem State.announceRise_pending (s : State) : s.announceRise.pending = s.pending := by rw [State.announceRise_frame]
@[simp] theorem State.announceRise_freeIndex (s : State) : s.announceRise.freeIndex = s.freeIndex := by rw [State.announceRise_frame]
@[simp] theorem State.announceRise_inReset (s : State) : s.announceRise.inReset = s.inReset := by rw [State.announceRise_frame]
@[simp] theorem State.announceRise_lines (s : State) : s.announceRise.lines = s.lines := by rw [State.announceRise_frame]
@[simp] theorem State.announceRise_wire (s : State) : s.announceRise.wire = s.wire := by rw [State.announceRise_frame]
@[simp] theorem State.announceRise_role (s : State) : s.announceRise.role = s.role := by rw [State.announceRise_frame]
@[simp] theorem State.announceRise_regions (s : State) : s.announceRise.regions = s.regions := by rw [State.announceRise_frame]
@[simp] theorem State.announceRise_params (s : State) : s.announceRise.params = s.params := by rw [State.announceRise_frame]
@[simp] theorem State.announceRise_journal (s : State) : s.announceRise.journal = s.journal := by rw [State.announceRise_frame]
@[simp] theorem State.announceRise_map (s : State) : s.announceRise.map = s.map := by rw [State.announceRise_frame]
@[simp] theorem State.announceRise_link (s : State) : s.announceRise.link = s.link := by rw [State.announceRise_frame]
@[simp] theorem State.announceRise_sender (s : State) : s.announceRise.sender = s.sender := by rw [State.announceRise_frame]
@[simp] theorem State.announceRise_receiver (s : State) : s.announceRise.receiver = s.receiver := by rw [State.announceRise_frame]
@[simp] theorem State.announceRise_apply (s : State) : s.announceRise.apply = s.apply := by rw [State.announceRise_frame]
@[simp] theorem State.announceRise_pair (s : State) : s.announceRise.pair = s.pair := by rw [State.announceRise_frame]
@[simp] theorem State.announceRise_mgmt (s : State) : s.announceRise.mgmt = s.mgmt := by rw [State.announceRise_frame]
@[simp] theorem State.announceRise_alert (s : State) : s.announceRise.alert = s.alert := by rw [State.announceRise_frame]
@[simp] theorem State.announceRise_counters (s : State) : s.announceRise.counters = s.counters := by rw [State.announceRise_frame]

@[simp] theorem State.releaseClaim_pending (s : State) : s.releaseClaim.pending = s.pending := by rw [State.releaseClaim_frame]
@[simp] theorem State.releaseClaim_freeIndex (s : State) : s.releaseClaim.freeIndex = s.freeIndex := by rw [State.releaseClaim_frame]
@[simp] theorem State.releaseClaim_inReset (s : State) : s.releaseClaim.inReset = s.inReset := by rw [State.releaseClaim_frame]
@[simp] theorem State.releaseClaim_lines (s : State) : s.releaseClaim.lines = s.lines := by rw [State.releaseClaim_frame]
@[simp] theorem State.releaseClaim_wire (s : State) : s.releaseClaim.wire = s.wire := by rw [State.releaseClaim_frame]
@[simp] theorem State.releaseClaim_role (s : State) : s.releaseClaim.role = s.role := by rw [State.releaseClaim_frame]
@[simp] theorem State.releaseClaim_regions (s : State) : s.releaseClaim.regions = s.regions := by rw [State.releaseClaim_frame]
@[simp] theorem State.releaseClaim_params (s : State) : s.releaseClaim.params = s.params := by rw [State.releaseClaim_frame]
@[simp] theorem State.releaseClaim_journal (s : State) : s.releaseClaim.journal = s.journal := by rw [State.releaseClaim_frame]
@[simp] theorem State.releaseClaim_map (s : State) : s.releaseClaim.map = s.map := by rw [State.releaseClaim_frame]
@[simp] theorem State.releaseClaim_link (s : State) : s.releaseClaim.link = s.link := by rw [State.releaseClaim_frame]
@[simp] theorem State.releaseClaim_sender (s : State) : s.releaseClaim.sender = s.sender := by rw [State.releaseClaim_frame]
@[simp] theorem State.releaseClaim_receiver (s : State) : s.releaseClaim.receiver = s.receiver := by rw [State.releaseClaim_frame]
@[simp] theorem State.releaseClaim_apply (s : State) : s.releaseClaim.apply = s.apply := by rw [State.releaseClaim_frame]
@[simp] theorem State.releaseClaim_pair (s : State) : s.releaseClaim.pair = s.pair := by rw [State.releaseClaim_frame]
@[simp] theorem State.releaseClaim_mgmt (s : State) : s.releaseClaim.mgmt = s.mgmt := by rw [State.releaseClaim_frame]
@[simp] theorem State.releaseClaim_alert (s : State) : s.releaseClaim.alert = s.alert := by rw [State.releaseClaim_frame]
@[simp] theorem State.releaseClaim_counters (s : State) : s.releaseClaim.counters = s.counters := by rw [State.releaseClaim_frame]

@[simp] theorem State.releaseHold_pending (s : State) : s.releaseHold.pending = s.pending := by rw [State.releaseHold_frame]
@[simp] theorem State.releaseHold_freeIndex (s : State) : s.releaseHold.freeIndex = s.freeIndex := by rw [State.releaseHold_frame]
@[simp] theorem State.releaseHold_inReset (s : State) : s.releaseHold.inReset = s.inReset := by rw [State.releaseHold_frame]
@[simp] theorem State.releaseHold_lines (s : State) : s.releaseHold.lines = s.lines := by rw [State.releaseHold_frame]
@[simp] theorem State.releaseHold_wire (s : State) : s.releaseHold.wire = s.wire := by rw [State.releaseHold_frame]
@[simp] theorem State.releaseHold_role (s : State) : s.releaseHold.role = s.role := by rw [State.releaseHold_frame]
@[simp] theorem State.releaseHold_regions (s : State) : s.releaseHold.regions = s.regions := by rw [State.releaseHold_frame]
@[simp] theorem State.releaseHold_params (s : State) : s.releaseHold.params = s.params := by rw [State.releaseHold_frame]
@[simp] theorem State.releaseHold_mem (s : State) : s.releaseHold.mem = s.mem := by rw [State.releaseHold_frame]
@[simp] theorem State.releaseHold_journal (s : State) : s.releaseHold.journal = s.journal := by rw [State.releaseHold_frame]
@[simp] theorem State.releaseHold_map (s : State) : s.releaseHold.map = s.map := by rw [State.releaseHold_frame]
@[simp] theorem State.releaseHold_sweep (s : State) : s.releaseHold.sweep = s.sweep := by rw [State.releaseHold_frame]
@[simp] theorem State.releaseHold_link (s : State) : s.releaseHold.link = s.link := by rw [State.releaseHold_frame]
@[simp] theorem State.releaseHold_sender (s : State) : s.releaseHold.sender = s.sender := by rw [State.releaseHold_frame]
@[simp] theorem State.releaseHold_receiver (s : State) : s.releaseHold.receiver = s.receiver := by rw [State.releaseHold_frame]
@[simp] theorem State.releaseHold_apply (s : State) : s.releaseHold.apply = s.apply := by rw [State.releaseHold_frame]
@[simp] theorem State.releaseHold_pair (s : State) : s.releaseHold.pair = s.pair := by rw [State.releaseHold_frame]
@[simp] theorem State.releaseHold_mgmt (s : State) : s.releaseHold.mgmt = s.mgmt := by rw [State.releaseHold_frame]
@[simp] theorem State.releaseHold_alert (s : State) : s.releaseHold.alert = s.alert := by rw [State.releaseHold_frame]
@[simp] theorem State.releaseHold_counters (s : State) : s.releaseHold.counters = s.counters := by rw [State.releaseHold_frame]

@[simp] theorem State.autoStart_pending (s : State) : s.autoStart.pending = s.pending := by rw [State.autoStart_frame]
@[simp] theorem State.autoStart_freeIndex (s : State) : s.autoStart.freeIndex = s.freeIndex := by rw [State.autoStart_frame]
@[simp] theorem State.autoStart_inReset (s : State) : s.autoStart.inReset = s.inReset := by rw [State.autoStart_frame]
@[simp] theorem State.autoStart_lines (s : State) : s.autoStart.lines = s.lines := by rw [State.autoStart_frame]
@[simp] theorem State.autoStart_wire (s : State) : s.autoStart.wire = s.wire := by rw [State.autoStart_frame]
@[simp] theorem State.autoStart_role (s : State) : s.autoStart.role = s.role := by rw [State.autoStart_frame]
@[simp] theorem State.autoStart_regions (s : State) : s.autoStart.regions = s.regions := by rw [State.autoStart_frame]
@[simp] theorem State.autoStart_params (s : State) : s.autoStart.params = s.params := by rw [State.autoStart_frame]
@[simp] theorem State.autoStart_host (s : State) : s.autoStart.host = s.host := by rw [State.autoStart_frame]
@[simp] theorem State.autoStart_mem (s : State) : s.autoStart.mem = s.mem := by rw [State.autoStart_frame]
@[simp] theorem State.autoStart_journal (s : State) : s.autoStart.journal = s.journal := by rw [State.autoStart_frame]
@[simp] theorem State.autoStart_map (s : State) : s.autoStart.map = s.map := by rw [State.autoStart_frame]
@[simp] theorem State.autoStart_link (s : State) : s.autoStart.link = s.link := by rw [State.autoStart_frame]
@[simp] theorem State.autoStart_sender (s : State) : s.autoStart.sender = s.sender := by rw [State.autoStart_frame]
@[simp] theorem State.autoStart_receiver (s : State) : s.autoStart.receiver = s.receiver := by rw [State.autoStart_frame]
@[simp] theorem State.autoStart_apply (s : State) : s.autoStart.apply = s.apply := by rw [State.autoStart_frame]
@[simp] theorem State.autoStart_pair (s : State) : s.autoStart.pair = s.pair := by rw [State.autoStart_frame]
@[simp] theorem State.autoStart_mgmt (s : State) : s.autoStart.mgmt = s.mgmt := by rw [State.autoStart_frame]
@[simp] theorem State.autoStart_alert (s : State) : s.autoStart.alert = s.alert := by rw [State.autoStart_frame]
@[simp] theorem State.autoStart_counters (s : State) : s.autoStart.counters = s.counters := by rw [State.autoStart_frame]

@[simp] theorem State.setFlags_pending (bs : List Block) (s : State) : (s.setFlags bs).pending = s.pending := by rw [State.setFlags_frame]
@[simp] theorem State.setFlags_freeIndex (bs : List Block) (s : State) : (s.setFlags bs).freeIndex = s.freeIndex := by rw [State.setFlags_frame]
@[simp] theorem State.setFlags_inReset (bs : List Block) (s : State) : (s.setFlags bs).inReset = s.inReset := by rw [State.setFlags_frame]
@[simp] theorem State.setFlags_lines (bs : List Block) (s : State) : (s.setFlags bs).lines = s.lines := by rw [State.setFlags_frame]
@[simp] theorem State.setFlags_wire (bs : List Block) (s : State) : (s.setFlags bs).wire = s.wire := by rw [State.setFlags_frame]
@[simp] theorem State.setFlags_role (bs : List Block) (s : State) : (s.setFlags bs).role = s.role := by rw [State.setFlags_frame]
@[simp] theorem State.setFlags_regions (bs : List Block) (s : State) : (s.setFlags bs).regions = s.regions := by rw [State.setFlags_frame]
@[simp] theorem State.setFlags_params (bs : List Block) (s : State) : (s.setFlags bs).params = s.params := by rw [State.setFlags_frame]
@[simp] theorem State.setFlags_host (bs : List Block) (s : State) : (s.setFlags bs).host = s.host := by rw [State.setFlags_frame]
@[simp] theorem State.setFlags_mem (bs : List Block) (s : State) : (s.setFlags bs).mem = s.mem := by rw [State.setFlags_frame]
@[simp] theorem State.setFlags_journal (bs : List Block) (s : State) : (s.setFlags bs).journal = s.journal := by rw [State.setFlags_frame]
@[simp] theorem State.setFlags_link (bs : List Block) (s : State) : (s.setFlags bs).link = s.link := by rw [State.setFlags_frame]
@[simp] theorem State.setFlags_sender (bs : List Block) (s : State) : (s.setFlags bs).sender = s.sender := by rw [State.setFlags_frame]
@[simp] theorem State.setFlags_receiver (bs : List Block) (s : State) : (s.setFlags bs).receiver = s.receiver := by rw [State.setFlags_frame]
@[simp] theorem State.setFlags_apply (bs : List Block) (s : State) : (s.setFlags bs).apply = s.apply := by rw [State.setFlags_frame]
@[simp] theorem State.setFlags_pair (bs : List Block) (s : State) : (s.setFlags bs).pair = s.pair := by rw [State.setFlags_frame]
@[simp] theorem State.setFlags_mgmt (bs : List Block) (s : State) : (s.setFlags bs).mgmt = s.mgmt := by rw [State.setFlags_frame]
@[simp] theorem State.setFlags_alert (bs : List Block) (s : State) : (s.setFlags bs).alert = s.alert := by rw [State.setFlags_frame]
@[simp] theorem State.setFlags_counters (bs : List Block) (s : State) : (s.setFlags bs).counters = s.counters := by rw [State.setFlags_frame]

@[simp] theorem State.markDirty_pending (bs : List Block) (s : State) : (s.markDirty bs).pending = s.pending := by rw [State.markDirty_frame]
@[simp] theorem State.markDirty_freeIndex (bs : List Block) (s : State) : (s.markDirty bs).freeIndex = s.freeIndex := by rw [State.markDirty_frame]
@[simp] theorem State.markDirty_inReset (bs : List Block) (s : State) : (s.markDirty bs).inReset = s.inReset := by rw [State.markDirty_frame]
@[simp] theorem State.markDirty_lines (bs : List Block) (s : State) : (s.markDirty bs).lines = s.lines := by rw [State.markDirty_frame]
@[simp] theorem State.markDirty_wire (bs : List Block) (s : State) : (s.markDirty bs).wire = s.wire := by rw [State.markDirty_frame]
@[simp] theorem State.markDirty_role (bs : List Block) (s : State) : (s.markDirty bs).role = s.role := by rw [State.markDirty_frame]
@[simp] theorem State.markDirty_regions (bs : List Block) (s : State) : (s.markDirty bs).regions = s.regions := by rw [State.markDirty_frame]
@[simp] theorem State.markDirty_params (bs : List Block) (s : State) : (s.markDirty bs).params = s.params := by rw [State.markDirty_frame]
@[simp] theorem State.markDirty_host (bs : List Block) (s : State) : (s.markDirty bs).host = s.host := by rw [State.markDirty_frame]
@[simp] theorem State.markDirty_mem (bs : List Block) (s : State) : (s.markDirty bs).mem = s.mem := by rw [State.markDirty_frame]
@[simp] theorem State.markDirty_journal (bs : List Block) (s : State) : (s.markDirty bs).journal = s.journal := by rw [State.markDirty_frame]
@[simp] theorem State.markDirty_link (bs : List Block) (s : State) : (s.markDirty bs).link = s.link := by rw [State.markDirty_frame]
@[simp] theorem State.markDirty_sender (bs : List Block) (s : State) : (s.markDirty bs).sender = s.sender := by rw [State.markDirty_frame]
@[simp] theorem State.markDirty_receiver (bs : List Block) (s : State) : (s.markDirty bs).receiver = s.receiver := by rw [State.markDirty_frame]
@[simp] theorem State.markDirty_apply (bs : List Block) (s : State) : (s.markDirty bs).apply = s.apply := by rw [State.markDirty_frame]
@[simp] theorem State.markDirty_mgmt (bs : List Block) (s : State) : (s.markDirty bs).mgmt = s.mgmt := by rw [State.markDirty_frame]
@[simp] theorem State.markDirty_counters (bs : List Block) (s : State) : (s.markDirty bs).counters = s.counters := by rw [State.markDirty_frame]

@[simp] theorem State.waterTest_pending (s : State) : s.waterTest.pending = s.pending := by rw [State.waterTest_frame]
@[simp] theorem State.waterTest_freeIndex (s : State) : s.waterTest.freeIndex = s.freeIndex := by rw [State.waterTest_frame]
@[simp] theorem State.waterTest_inReset (s : State) : s.waterTest.inReset = s.inReset := by rw [State.waterTest_frame]
@[simp] theorem State.waterTest_lines (s : State) : s.waterTest.lines = s.lines := by rw [State.waterTest_frame]
@[simp] theorem State.waterTest_wire (s : State) : s.waterTest.wire = s.wire := by rw [State.waterTest_frame]
@[simp] theorem State.waterTest_role (s : State) : s.waterTest.role = s.role := by rw [State.waterTest_frame]
@[simp] theorem State.waterTest_regions (s : State) : s.waterTest.regions = s.regions := by rw [State.waterTest_frame]
@[simp] theorem State.waterTest_params (s : State) : s.waterTest.params = s.params := by rw [State.waterTest_frame]
@[simp] theorem State.waterTest_host (s : State) : s.waterTest.host = s.host := by rw [State.waterTest_frame]
@[simp] theorem State.waterTest_mem (s : State) : s.waterTest.mem = s.mem := by rw [State.waterTest_frame]
@[simp] theorem State.waterTest_map (s : State) : s.waterTest.map = s.map := by rw [State.waterTest_frame]
@[simp] theorem State.waterTest_sweep (s : State) : s.waterTest.sweep = s.sweep := by rw [State.waterTest_frame]
@[simp] theorem State.waterTest_link (s : State) : s.waterTest.link = s.link := by rw [State.waterTest_frame]
@[simp] theorem State.waterTest_sender (s : State) : s.waterTest.sender = s.sender := by rw [State.waterTest_frame]
@[simp] theorem State.waterTest_receiver (s : State) : s.waterTest.receiver = s.receiver := by rw [State.waterTest_frame]
@[simp] theorem State.waterTest_apply (s : State) : s.waterTest.apply = s.apply := by rw [State.waterTest_frame]
@[simp] theorem State.waterTest_pair (s : State) : s.waterTest.pair = s.pair := by rw [State.waterTest_frame]
@[simp] theorem State.waterTest_mgmt (s : State) : s.waterTest.mgmt = s.mgmt := by rw [State.waterTest_frame]
@[simp] theorem State.waterTest_counters (s : State) : s.waterTest.counters = s.counters := by rw [State.waterTest_frame]

@[simp] theorem State.withdrawRequest_pending (s : State) : s.withdrawRequest.pending = s.pending := by rw [State.withdrawRequest_frame]
@[simp] theorem State.withdrawRequest_freeIndex (s : State) : s.withdrawRequest.freeIndex = s.freeIndex := by rw [State.withdrawRequest_frame]
@[simp] theorem State.withdrawRequest_inReset (s : State) : s.withdrawRequest.inReset = s.inReset := by rw [State.withdrawRequest_frame]
@[simp] theorem State.withdrawRequest_lines (s : State) : s.withdrawRequest.lines = s.lines := by rw [State.withdrawRequest_frame]
@[simp] theorem State.withdrawRequest_wire (s : State) : s.withdrawRequest.wire = s.wire := by rw [State.withdrawRequest_frame]
@[simp] theorem State.withdrawRequest_role (s : State) : s.withdrawRequest.role = s.role := by rw [State.withdrawRequest_frame]
@[simp] theorem State.withdrawRequest_regions (s : State) : s.withdrawRequest.regions = s.regions := by rw [State.withdrawRequest_frame]
@[simp] theorem State.withdrawRequest_params (s : State) : s.withdrawRequest.params = s.params := by rw [State.withdrawRequest_frame]
@[simp] theorem State.withdrawRequest_host (s : State) : s.withdrawRequest.host = s.host := by rw [State.withdrawRequest_frame]
@[simp] theorem State.withdrawRequest_journal (s : State) : s.withdrawRequest.journal = s.journal := by rw [State.withdrawRequest_frame]
@[simp] theorem State.withdrawRequest_map (s : State) : s.withdrawRequest.map = s.map := by rw [State.withdrawRequest_frame]
@[simp] theorem State.withdrawRequest_link (s : State) : s.withdrawRequest.link = s.link := by rw [State.withdrawRequest_frame]
@[simp] theorem State.withdrawRequest_sender (s : State) : s.withdrawRequest.sender = s.sender := by rw [State.withdrawRequest_frame]
@[simp] theorem State.withdrawRequest_receiver (s : State) : s.withdrawRequest.receiver = s.receiver := by rw [State.withdrawRequest_frame]
@[simp] theorem State.withdrawRequest_apply (s : State) : s.withdrawRequest.apply = s.apply := by rw [State.withdrawRequest_frame]
@[simp] theorem State.withdrawRequest_pair (s : State) : s.withdrawRequest.pair = s.pair := by rw [State.withdrawRequest_frame]
@[simp] theorem State.withdrawRequest_mgmt (s : State) : s.withdrawRequest.mgmt = s.mgmt := by rw [State.withdrawRequest_frame]
@[simp] theorem State.withdrawRequest_alert (s : State) : s.withdrawRequest.alert = s.alert := by rw [State.withdrawRequest_frame]
@[simp] theorem State.withdrawRequest_counters (s : State) : s.withdrawRequest.counters = s.counters := by rw [State.withdrawRequest_frame]

@[simp] theorem State.remarkCopy_pending (s : State) : s.remarkCopy.pending = s.pending := by rw [State.remarkCopy_frame]
@[simp] theorem State.remarkCopy_freeIndex (s : State) : s.remarkCopy.freeIndex = s.freeIndex := by rw [State.remarkCopy_frame]
@[simp] theorem State.remarkCopy_inReset (s : State) : s.remarkCopy.inReset = s.inReset := by rw [State.remarkCopy_frame]
@[simp] theorem State.remarkCopy_lines (s : State) : s.remarkCopy.lines = s.lines := by rw [State.remarkCopy_frame]
@[simp] theorem State.remarkCopy_wire (s : State) : s.remarkCopy.wire = s.wire := by rw [State.remarkCopy_frame]
@[simp] theorem State.remarkCopy_role (s : State) : s.remarkCopy.role = s.role := by rw [State.remarkCopy_frame]
@[simp] theorem State.remarkCopy_regions (s : State) : s.remarkCopy.regions = s.regions := by rw [State.remarkCopy_frame]
@[simp] theorem State.remarkCopy_params (s : State) : s.remarkCopy.params = s.params := by rw [State.remarkCopy_frame]
@[simp] theorem State.remarkCopy_host (s : State) : s.remarkCopy.host = s.host := by rw [State.remarkCopy_frame]
@[simp] theorem State.remarkCopy_mem (s : State) : s.remarkCopy.mem = s.mem := by rw [State.remarkCopy_frame]
@[simp] theorem State.remarkCopy_journal (s : State) : s.remarkCopy.journal = s.journal := by rw [State.remarkCopy_frame]
@[simp] theorem State.remarkCopy_link (s : State) : s.remarkCopy.link = s.link := by rw [State.remarkCopy_frame]
@[simp] theorem State.remarkCopy_sender (s : State) : s.remarkCopy.sender = s.sender := by rw [State.remarkCopy_frame]
@[simp] theorem State.remarkCopy_receiver (s : State) : s.remarkCopy.receiver = s.receiver := by rw [State.remarkCopy_frame]
@[simp] theorem State.remarkCopy_apply (s : State) : s.remarkCopy.apply = s.apply := by rw [State.remarkCopy_frame]
@[simp] theorem State.remarkCopy_pair (s : State) : s.remarkCopy.pair = s.pair := by rw [State.remarkCopy_frame]
@[simp] theorem State.remarkCopy_mgmt (s : State) : s.remarkCopy.mgmt = s.mgmt := by rw [State.remarkCopy_frame]
@[simp] theorem State.remarkCopy_alert (s : State) : s.remarkCopy.alert = s.alert := by rw [State.remarkCopy_frame]
@[simp] theorem State.remarkCopy_counters (s : State) : s.remarkCopy.counters = s.counters := by rw [State.remarkCopy_frame]

@[simp] theorem State.withdrawPlaceholder_pending (s : State) : s.withdrawPlaceholder.pending = s.pending := by rw [State.withdrawPlaceholder_frame]
@[simp] theorem State.withdrawPlaceholder_freeIndex (s : State) : s.withdrawPlaceholder.freeIndex = s.freeIndex := by rw [State.withdrawPlaceholder_frame]
@[simp] theorem State.withdrawPlaceholder_inReset (s : State) : s.withdrawPlaceholder.inReset = s.inReset := by rw [State.withdrawPlaceholder_frame]
@[simp] theorem State.withdrawPlaceholder_lines (s : State) : s.withdrawPlaceholder.lines = s.lines := by rw [State.withdrawPlaceholder_frame]
@[simp] theorem State.withdrawPlaceholder_wire (s : State) : s.withdrawPlaceholder.wire = s.wire := by rw [State.withdrawPlaceholder_frame]
@[simp] theorem State.withdrawPlaceholder_role (s : State) : s.withdrawPlaceholder.role = s.role := by rw [State.withdrawPlaceholder_frame]
@[simp] theorem State.withdrawPlaceholder_regions (s : State) : s.withdrawPlaceholder.regions = s.regions := by rw [State.withdrawPlaceholder_frame]
@[simp] theorem State.withdrawPlaceholder_params (s : State) : s.withdrawPlaceholder.params = s.params := by rw [State.withdrawPlaceholder_frame]
@[simp] theorem State.withdrawPlaceholder_host (s : State) : s.withdrawPlaceholder.host = s.host := by rw [State.withdrawPlaceholder_frame]
@[simp] theorem State.withdrawPlaceholder_mem (s : State) : s.withdrawPlaceholder.mem = s.mem := by rw [State.withdrawPlaceholder_frame]
@[simp] theorem State.withdrawPlaceholder_link (s : State) : s.withdrawPlaceholder.link = s.link := by rw [State.withdrawPlaceholder_frame]
@[simp] theorem State.withdrawPlaceholder_sender (s : State) : s.withdrawPlaceholder.sender = s.sender := by rw [State.withdrawPlaceholder_frame]
@[simp] theorem State.withdrawPlaceholder_receiver (s : State) : s.withdrawPlaceholder.receiver = s.receiver := by rw [State.withdrawPlaceholder_frame]
@[simp] theorem State.withdrawPlaceholder_apply (s : State) : s.withdrawPlaceholder.apply = s.apply := by rw [State.withdrawPlaceholder_frame]
@[simp] theorem State.withdrawPlaceholder_pair (s : State) : s.withdrawPlaceholder.pair = s.pair := by rw [State.withdrawPlaceholder_frame]
@[simp] theorem State.withdrawPlaceholder_mgmt (s : State) : s.withdrawPlaceholder.mgmt = s.mgmt := by rw [State.withdrawPlaceholder_frame]
@[simp] theorem State.withdrawPlaceholder_alert (s : State) : s.withdrawPlaceholder.alert = s.alert := by rw [State.withdrawPlaceholder_frame]
@[simp] theorem State.withdrawPlaceholder_counters (s : State) : s.withdrawPlaceholder.counters = s.counters := by rw [State.withdrawPlaceholder_frame]

@[simp] theorem State.failMarkers_pending (s : State) : s.failMarkers.pending = s.pending := by rw [State.failMarkers_frame]
@[simp] theorem State.failMarkers_freeIndex (s : State) : s.failMarkers.freeIndex = s.freeIndex := by rw [State.failMarkers_frame]
@[simp] theorem State.failMarkers_inReset (s : State) : s.failMarkers.inReset = s.inReset := by rw [State.failMarkers_frame]
@[simp] theorem State.failMarkers_lines (s : State) : s.failMarkers.lines = s.lines := by rw [State.failMarkers_frame]
@[simp] theorem State.failMarkers_wire (s : State) : s.failMarkers.wire = s.wire := by rw [State.failMarkers_frame]
@[simp] theorem State.failMarkers_role (s : State) : s.failMarkers.role = s.role := by rw [State.failMarkers_frame]
@[simp] theorem State.failMarkers_regions (s : State) : s.failMarkers.regions = s.regions := by rw [State.failMarkers_frame]
@[simp] theorem State.failMarkers_params (s : State) : s.failMarkers.params = s.params := by rw [State.failMarkers_frame]
@[simp] theorem State.failMarkers_host (s : State) : s.failMarkers.host = s.host := by rw [State.failMarkers_frame]
@[simp] theorem State.failMarkers_mem (s : State) : s.failMarkers.mem = s.mem := by rw [State.failMarkers_frame]
@[simp] theorem State.failMarkers_journal (s : State) : s.failMarkers.journal = s.journal := by rw [State.failMarkers_frame]
@[simp] theorem State.failMarkers_map (s : State) : s.failMarkers.map = s.map := by rw [State.failMarkers_frame]
@[simp] theorem State.failMarkers_sweep (s : State) : s.failMarkers.sweep = s.sweep := by rw [State.failMarkers_frame]
@[simp] theorem State.failMarkers_link (s : State) : s.failMarkers.link = s.link := by rw [State.failMarkers_frame]
@[simp] theorem State.failMarkers_sender (s : State) : s.failMarkers.sender = s.sender := by rw [State.failMarkers_frame]
@[simp] theorem State.failMarkers_receiver (s : State) : s.failMarkers.receiver = s.receiver := by rw [State.failMarkers_frame]
@[simp] theorem State.failMarkers_apply (s : State) : s.failMarkers.apply = s.apply := by rw [State.failMarkers_frame]
@[simp] theorem State.failMarkers_mgmt (s : State) : s.failMarkers.mgmt = s.mgmt := by rw [State.failMarkers_frame]
@[simp] theorem State.failMarkers_counters (s : State) : s.failMarkers.counters = s.counters := by rw [State.failMarkers_frame]

@[simp] theorem State.remove_pending (n : Nat) (s : State) : (s.remove n).pending = s.pending := by rw [State.remove_frame]
@[simp] theorem State.remove_freeIndex (n : Nat) (s : State) : (s.remove n).freeIndex = s.freeIndex := by rw [State.remove_frame]
@[simp] theorem State.remove_inReset (n : Nat) (s : State) : (s.remove n).inReset = s.inReset := by rw [State.remove_frame]
@[simp] theorem State.remove_lines (n : Nat) (s : State) : (s.remove n).lines = s.lines := by rw [State.remove_frame]
@[simp] theorem State.remove_wire (n : Nat) (s : State) : (s.remove n).wire = s.wire := by rw [State.remove_frame]
@[simp] theorem State.remove_role (n : Nat) (s : State) : (s.remove n).role = s.role := by rw [State.remove_frame]
@[simp] theorem State.remove_regions (n : Nat) (s : State) : (s.remove n).regions = s.regions := by rw [State.remove_frame]
@[simp] theorem State.remove_params (n : Nat) (s : State) : (s.remove n).params = s.params := by rw [State.remove_frame]
@[simp] theorem State.remove_map (n : Nat) (s : State) : (s.remove n).map = s.map := by rw [State.remove_frame]
@[simp] theorem State.remove_link (n : Nat) (s : State) : (s.remove n).link = s.link := by rw [State.remove_frame]
@[simp] theorem State.remove_sender (n : Nat) (s : State) : (s.remove n).sender = s.sender := by rw [State.remove_frame]
@[simp] theorem State.remove_receiver (n : Nat) (s : State) : (s.remove n).receiver = s.receiver := by rw [State.remove_frame]
@[simp] theorem State.remove_apply (n : Nat) (s : State) : (s.remove n).apply = s.apply := by rw [State.remove_frame]
@[simp] theorem State.remove_mgmt (n : Nat) (s : State) : (s.remove n).mgmt = s.mgmt := by rw [State.remove_frame]
@[simp] theorem State.remove_counters (n : Nat) (s : State) : (s.remove n).counters = s.counters := by rw [State.remove_frame]

@[simp] theorem State.progress_pending (s : State) : s.progress.pending = s.pending := by rw [State.progress_frame]
@[simp] theorem State.progress_freeIndex (s : State) : s.progress.freeIndex = s.freeIndex := by rw [State.progress_frame]
@[simp] theorem State.progress_inReset (s : State) : s.progress.inReset = s.inReset := by rw [State.progress_frame]
@[simp] theorem State.progress_lines (s : State) : s.progress.lines = s.lines := by rw [State.progress_frame]
@[simp] theorem State.progress_wire (s : State) : s.progress.wire = s.wire := by rw [State.progress_frame]
@[simp] theorem State.progress_role (s : State) : s.progress.role = s.role := by rw [State.progress_frame]
@[simp] theorem State.progress_regions (s : State) : s.progress.regions = s.regions := by rw [State.progress_frame]
@[simp] theorem State.progress_params (s : State) : s.progress.params = s.params := by rw [State.progress_frame]
@[simp] theorem State.progress_host (s : State) : s.progress.host = s.host := by rw [State.progress_frame]
@[simp] theorem State.progress_mem (s : State) : s.progress.mem = s.mem := by rw [State.progress_frame]
@[simp] theorem State.progress_journal (s : State) : s.progress.journal = s.journal := by rw [State.progress_frame]
@[simp] theorem State.progress_map (s : State) : s.progress.map = s.map := by rw [State.progress_frame]
@[simp] theorem State.progress_sweep (s : State) : s.progress.sweep = s.sweep := by rw [State.progress_frame]
@[simp] theorem State.progress_link (s : State) : s.progress.link = s.link := by rw [State.progress_frame]
@[simp] theorem State.progress_receiver (s : State) : s.progress.receiver = s.receiver := by rw [State.progress_frame]
@[simp] theorem State.progress_apply (s : State) : s.progress.apply = s.apply := by rw [State.progress_frame]
@[simp] theorem State.progress_pair (s : State) : s.progress.pair = s.pair := by rw [State.progress_frame]
@[simp] theorem State.progress_mgmt (s : State) : s.progress.mgmt = s.mgmt := by rw [State.progress_frame]
@[simp] theorem State.progress_alert (s : State) : s.progress.alert = s.alert := by rw [State.progress_frame]
@[simp] theorem State.progress_counters (s : State) : s.progress.counters = s.counters := by rw [State.progress_frame]

@[simp] theorem State.kick_pending (s : State) : s.kick.pending = s.pending := by rw [State.kick_frame]
@[simp] theorem State.kick_freeIndex (s : State) : s.kick.freeIndex = s.freeIndex := by rw [State.kick_frame]
@[simp] theorem State.kick_inReset (s : State) : s.kick.inReset = s.inReset := by rw [State.kick_frame]
@[simp] theorem State.kick_lines (s : State) : s.kick.lines = s.lines := by rw [State.kick_frame]
@[simp] theorem State.kick_wire (s : State) : s.kick.wire = s.wire := by rw [State.kick_frame]
@[simp] theorem State.kick_role (s : State) : s.kick.role = s.role := by rw [State.kick_frame]
@[simp] theorem State.kick_regions (s : State) : s.kick.regions = s.regions := by rw [State.kick_frame]
@[simp] theorem State.kick_params (s : State) : s.kick.params = s.params := by rw [State.kick_frame]
@[simp] theorem State.kick_host (s : State) : s.kick.host = s.host := by rw [State.kick_frame]
@[simp] theorem State.kick_mem (s : State) : s.kick.mem = s.mem := by rw [State.kick_frame]
@[simp] theorem State.kick_map (s : State) : s.kick.map = s.map := by rw [State.kick_frame]
@[simp] theorem State.kick_sweep (s : State) : s.kick.sweep = s.sweep := by rw [State.kick_frame]
@[simp] theorem State.kick_receiver (s : State) : s.kick.receiver = s.receiver := by rw [State.kick_frame]
@[simp] theorem State.kick_apply (s : State) : s.kick.apply = s.apply := by rw [State.kick_frame]
@[simp] theorem State.kick_pair (s : State) : s.kick.pair = s.pair := by rw [State.kick_frame]
@[simp] theorem State.kick_mgmt (s : State) : s.kick.mgmt = s.mgmt := by rw [State.kick_frame]
@[simp] theorem State.kick_alert (s : State) : s.kick.alert = s.alert := by rw [State.kick_frame]

@[simp] theorem State.finish_pending (s : State) : s.finish.pending = s.pending := by rw [State.finish_frame]
@[simp] theorem State.finish_freeIndex (s : State) : s.finish.freeIndex = s.freeIndex := by rw [State.finish_frame]
@[simp] theorem State.finish_inReset (s : State) : s.finish.inReset = s.inReset := by rw [State.finish_frame]
@[simp] theorem State.finish_lines (s : State) : s.finish.lines = s.lines := by rw [State.finish_frame]
@[simp] theorem State.finish_wire (s : State) : s.finish.wire = s.wire := by rw [State.finish_frame]
@[simp] theorem State.finish_role (s : State) : s.finish.role = s.role := by rw [State.finish_frame]
@[simp] theorem State.finish_regions (s : State) : s.finish.regions = s.regions := by rw [State.finish_frame]
@[simp] theorem State.finish_params (s : State) : s.finish.params = s.params := by rw [State.finish_frame]
@[simp] theorem State.finish_host (s : State) : s.finish.host = s.host := by rw [State.finish_frame]
@[simp] theorem State.finish_mem (s : State) : s.finish.mem = s.mem := by rw [State.finish_frame]
@[simp] theorem State.finish_map (s : State) : s.finish.map = s.map := by rw [State.finish_frame]
@[simp] theorem State.finish_sweep (s : State) : s.finish.sweep = s.sweep := by rw [State.finish_frame]
@[simp] theorem State.finish_receiver (s : State) : s.finish.receiver = s.receiver := by rw [State.finish_frame]
@[simp] theorem State.finish_apply (s : State) : s.finish.apply = s.apply := by rw [State.finish_frame]
@[simp] theorem State.finish_mgmt (s : State) : s.finish.mgmt = s.mgmt := by rw [State.finish_frame]

@[simp] theorem State.sweepLinkDown_pending (s : State) : s.sweepLinkDown.pending = s.pending := by rw [State.sweepLinkDown_frame]
@[simp] theorem State.sweepLinkDown_freeIndex (s : State) : s.sweepLinkDown.freeIndex = s.freeIndex := by rw [State.sweepLinkDown_frame]
@[simp] theorem State.sweepLinkDown_inReset (s : State) : s.sweepLinkDown.inReset = s.inReset := by rw [State.sweepLinkDown_frame]
@[simp] theorem State.sweepLinkDown_lines (s : State) : s.sweepLinkDown.lines = s.lines := by rw [State.sweepLinkDown_frame]
@[simp] theorem State.sweepLinkDown_wire (s : State) : s.sweepLinkDown.wire = s.wire := by rw [State.sweepLinkDown_frame]
@[simp] theorem State.sweepLinkDown_role (s : State) : s.sweepLinkDown.role = s.role := by rw [State.sweepLinkDown_frame]
@[simp] theorem State.sweepLinkDown_regions (s : State) : s.sweepLinkDown.regions = s.regions := by rw [State.sweepLinkDown_frame]
@[simp] theorem State.sweepLinkDown_params (s : State) : s.sweepLinkDown.params = s.params := by rw [State.sweepLinkDown_frame]
@[simp] theorem State.sweepLinkDown_host (s : State) : s.sweepLinkDown.host = s.host := by rw [State.sweepLinkDown_frame]
@[simp] theorem State.sweepLinkDown_journal (s : State) : s.sweepLinkDown.journal = s.journal := by rw [State.sweepLinkDown_frame]
@[simp] theorem State.sweepLinkDown_link (s : State) : s.sweepLinkDown.link = s.link := by rw [State.sweepLinkDown_frame]
@[simp] theorem State.sweepLinkDown_sender (s : State) : s.sweepLinkDown.sender = s.sender := by rw [State.sweepLinkDown_frame]
@[simp] theorem State.sweepLinkDown_receiver (s : State) : s.sweepLinkDown.receiver = s.receiver := by rw [State.sweepLinkDown_frame]
@[simp] theorem State.sweepLinkDown_apply (s : State) : s.sweepLinkDown.apply = s.apply := by rw [State.sweepLinkDown_frame]
@[simp] theorem State.sweepLinkDown_pair (s : State) : s.sweepLinkDown.pair = s.pair := by rw [State.sweepLinkDown_frame]
@[simp] theorem State.sweepLinkDown_mgmt (s : State) : s.sweepLinkDown.mgmt = s.mgmt := by rw [State.sweepLinkDown_frame]
@[simp] theorem State.sweepLinkDown_alert (s : State) : s.sweepLinkDown.alert = s.alert := by rw [State.sweepLinkDown_frame]
@[simp] theorem State.sweepLinkDown_counters (s : State) : s.sweepLinkDown.counters = s.counters := by rw [State.sweepLinkDown_frame]

@[simp] theorem State.endPromotion_pending (s : State) : s.endPromotion.pending = s.pending := by rw [State.endPromotion_frame]
@[simp] theorem State.endPromotion_freeIndex (s : State) : s.endPromotion.freeIndex = s.freeIndex := by rw [State.endPromotion_frame]
@[simp] theorem State.endPromotion_inReset (s : State) : s.endPromotion.inReset = s.inReset := by rw [State.endPromotion_frame]
@[simp] theorem State.endPromotion_lines (s : State) : s.endPromotion.lines = s.lines := by rw [State.endPromotion_frame]
@[simp] theorem State.endPromotion_wire (s : State) : s.endPromotion.wire = s.wire := by rw [State.endPromotion_frame]
@[simp] theorem State.endPromotion_regions (s : State) : s.endPromotion.regions = s.regions := by rw [State.endPromotion_frame]
@[simp] theorem State.endPromotion_params (s : State) : s.endPromotion.params = s.params := by rw [State.endPromotion_frame]
@[simp] theorem State.endPromotion_host (s : State) : s.endPromotion.host = s.host := by rw [State.endPromotion_frame]
@[simp] theorem State.endPromotion_journal (s : State) : s.endPromotion.journal = s.journal := by rw [State.endPromotion_frame]
@[simp] theorem State.endPromotion_map (s : State) : s.endPromotion.map = s.map := by rw [State.endPromotion_frame]
@[simp] theorem State.endPromotion_sweep (s : State) : s.endPromotion.sweep = s.sweep := by rw [State.endPromotion_frame]
@[simp] theorem State.endPromotion_link (s : State) : s.endPromotion.link = s.link := by rw [State.endPromotion_frame]
@[simp] theorem State.endPromotion_sender (s : State) : s.endPromotion.sender = s.sender := by rw [State.endPromotion_frame]
@[simp] theorem State.endPromotion_receiver (s : State) : s.endPromotion.receiver = s.receiver := by rw [State.endPromotion_frame]
@[simp] theorem State.endPromotion_apply (s : State) : s.endPromotion.apply = s.apply := by rw [State.endPromotion_frame]
@[simp] theorem State.endPromotion_pair (s : State) : s.endPromotion.pair = s.pair := by rw [State.endPromotion_frame]
@[simp] theorem State.endPromotion_mgmt (s : State) : s.endPromotion.mgmt = s.mgmt := by rw [State.endPromotion_frame]
@[simp] theorem State.endPromotion_counters (s : State) : s.endPromotion.counters = s.counters := by rw [State.endPromotion_frame]

/-! ## The session end and a departure from UP -/

@[simp] theorem State.sessionEnd_pending (s : State) : s.sessionEnd.pending = s.pending := by simp [State.sessionEnd, State.hostSessionEnd]
@[simp] theorem State.sessionEnd_freeIndex (s : State) : s.sessionEnd.freeIndex = s.freeIndex := by simp [State.sessionEnd, State.hostSessionEnd]
@[simp] theorem State.sessionEnd_inReset (s : State) : s.sessionEnd.inReset = s.inReset := by simp [State.sessionEnd, State.hostSessionEnd]
@[simp] theorem State.sessionEnd_lines (s : State) : s.sessionEnd.lines = s.lines := by simp [State.sessionEnd, State.hostSessionEnd]
@[simp] theorem State.sessionEnd_wire (s : State) : s.sessionEnd.wire = s.wire := by simp [State.sessionEnd, State.hostSessionEnd]
@[simp] theorem State.sessionEnd_role (s : State) : s.sessionEnd.role = s.role := by simp [State.sessionEnd, State.hostSessionEnd]
@[simp] theorem State.sessionEnd_regions (s : State) : s.sessionEnd.regions = s.regions := by simp [State.sessionEnd, State.hostSessionEnd]
@[simp] theorem State.sessionEnd_params (s : State) : s.sessionEnd.params = s.params := by simp [State.sessionEnd, State.hostSessionEnd]
@[simp] theorem State.sessionEnd_link (s : State) : s.sessionEnd.link = s.link := by simp [State.sessionEnd, State.hostSessionEnd]
@[simp] theorem State.sessionEnd_receiver (s : State) : s.sessionEnd.receiver = s.receiver := by simp [State.sessionEnd, State.hostSessionEnd]
@[simp] theorem State.sessionEnd_apply (s : State) : s.sessionEnd.apply = s.apply := by simp [State.sessionEnd, State.hostSessionEnd]
@[simp] theorem State.sessionEnd_mgmt (s : State) : s.sessionEnd.mgmt = s.mgmt := by simp [State.sessionEnd, State.hostSessionEnd]
@[simp] theorem State.sessionEnd_counters (s : State) : s.sessionEnd.counters = s.counters := by simp [State.sessionEnd, State.hostSessionEnd]

@[simp] theorem State.departUp_pending (dest : LinkState) (s : State) : (s.departUp dest).pending = s.pending := by
  simp only [State.departUp]
  split <;> simp
@[simp] theorem State.departUp_freeIndex (dest : LinkState) (s : State) : (s.departUp dest).freeIndex = s.freeIndex := by
  simp only [State.departUp]
  split <;> simp
@[simp] theorem State.departUp_inReset (dest : LinkState) (s : State) : (s.departUp dest).inReset = s.inReset := by
  simp only [State.departUp]
  split <;> simp
@[simp] theorem State.departUp_lines (dest : LinkState) (s : State) : (s.departUp dest).lines = s.lines := by
  simp only [State.departUp]
  split <;> simp
@[simp] theorem State.departUp_wire (dest : LinkState) (s : State) : (s.departUp dest).wire = s.wire := by
  simp only [State.departUp]
  split <;> simp
@[simp] theorem State.departUp_role (dest : LinkState) (s : State) : (s.departUp dest).role = s.role := by
  simp only [State.departUp]
  split <;> simp
@[simp] theorem State.departUp_regions (dest : LinkState) (s : State) : (s.departUp dest).regions = s.regions := by
  simp only [State.departUp]
  split <;> simp
@[simp] theorem State.departUp_params (dest : LinkState) (s : State) : (s.departUp dest).params = s.params := by
  simp only [State.departUp]
  split <;> simp
@[simp] theorem State.departUp_receiver (dest : LinkState) (s : State) : (s.departUp dest).receiver = s.receiver := by
  simp only [State.departUp]
  split <;> simp
@[simp] theorem State.departUp_apply (dest : LinkState) (s : State) : (s.departUp dest).apply = s.apply := by
  simp only [State.departUp]
  split <;> simp
@[simp] theorem State.departUp_mgmt (dest : LinkState) (s : State) : (s.departUp dest).mgmt = s.mgmt := by
  simp only [State.departUp]
  split <;> simp
@[simp] theorem State.departUp_counters (dest : LinkState) (s : State) : (s.departUp dest).counters = s.counters := by
  simp only [State.departUp]
  split <;> simp

/-- A departure from UP leaves the link as the change of state leaves it. -/
theorem State.departUp_link (dest : LinkState) (s : State) : (s.departUp dest).link = (s.setLink dest).link := by
  simp only [State.departUp]
  split <;> simp

/-- A session end leaves the journal empty and the sender at its reset values. -/
theorem State.sessionEnd_records (s : State) : s.sessionEnd.journal.records = [] := by
  simp [State.sessionEnd, State.waterTest_records, State.hostSessionEnd]

theorem State.sessionEnd_sender (s : State) : s.sessionEnd.sender = Sender.powerOn := by simp [State.sessionEnd]

end Sys2Proof.Machine
end

