-- ==== Sys2Proof/Laws/Lines.lean ====
section
/-! SUPPORT. What an event on the lines can do, said once, and what the step does in each of its cases. -/

namespace Sys2Proof.Machine

open Sys2Proof

theorem step_command {s : State} {c : Instr} {rest : List Instr} (h : s.pending = c :: rest) :
    step s = exec c { s with pending := rest } := by simp [step, h]

theorem step_line {s : State} {e : LineEvent} {rest : List LineEvent} (h : s.pending = []) (hl : s.lines = e :: rest) :
    step s = State.lineEvent e { s with lines := rest } := by simp [step, h, hl]

theorem step_idle {s : State} (h : s.pending = []) (hl : s.lines = []) : step s = .next s := by simp [step, h, hl]

/-- Line fill goes before any frame (R73). -/
theorem State.symbolSent_of_fillDue {s : State} (h : s.wire.fillDue ≠ 0) : s.symbolSent = .fill := by
  simp [State.symbolSent, State.frameOnLine, h]

/-- With no line fill owed, the frame on the line of a running part is the frame in transmission. -/
theorem State.frameOnLine_of_runs {s : State} (h : s.inReset = false) (hf : s.wire.fillDue = 0) : s.frameOnLine = s.link.tx := by
  simp [State.frameOnLine, h, hf]

/-- A result that only the management port and the ends of the link's line are changed by, or a command's on such a state. -/
def LineResult (s : State) (r : Result) : Prop :=
  (∃ m w, r = .next { s with mgmt := m, wire := w }) ∨ ∃ c m w, r = exec c { s with mgmt := m, wire := w }

theorem State.takeKept_result (s : State) (m : Mgmt) (w : Wire) : LineResult s (State.takeKept { s with mgmt := m, wire := w }) := by
  unfold State.takeKept
  split
  · exact .inl ⟨m, w, rfl⟩
  · split
    · exact .inr ⟨_, m, w, rfl⟩
    · exact .inl ⟨m, w, rfl⟩

theorem State.byteArrives_result (b : Byte) (s : State) : LineResult s (s.byteArrives b) := by
  unfold State.byteArrives
  split
  · dsimp only
    split
    · exact .inl ⟨_, s.wire, rfl⟩
    · exact State.takeKept_result s _ s.wire
  · dsimp only
    split
    · exact .inl ⟨_, s.wire, rfl⟩
    · exact State.takeKept_result s _ s.wire
  · exact .inl ⟨_, s.wire, rfl⟩

theorem State.awake_result (s : State) (r : Result) (h : LineResult s r) : LineResult s (s.awake r) := by
  unfold State.awake
  split
  · exact .inl ⟨s.mgmt, s.wire, rfl⟩
  · exact h

theorem State.unchanged_result (s : State) : LineResult s (.next s) := .inl ⟨s.mgmt, s.wire, rfl⟩

/-- An event on the lines changes the management port and the ends of the link's line only, or brings one command. -/
theorem State.lineEvent_result (e : LineEvent) (s : State) : LineResult s (s.lineEvent e) := by
  cases e with
  | mselFall =>
    apply State.awake_result
    split
    · exact .inl ⟨Mgmt.selected, s.wire, rfl⟩
    · exact s.unchanged_result
  | mselRise =>
    show LineResult s s.mselRise
    unfold State.mselRise
    split
    · exact s.unchanged_result
    · exact .inr ⟨.shortFrame [], s.mgmt, s.wire, rfl⟩
    · exact .inr ⟨.shortFrame (s.mgmt.command.toList ++ s.mgmt.args), s.mgmt, s.wire, rfl⟩
    · exact .inr ⟨.shortFrame (s.mgmt.command.toList ++ s.mgmt.args), s.mgmt, s.wire, rfl⟩
    · exact .inr ⟨.frameEnd, s.mgmt, s.wire, rfl⟩
  | mclkRise mdi =>
    apply State.awake_result
    split
    · split
      · exact .inl ⟨_, s.wire, rfl⟩
      · exact s.byteArrives_result _
    · exact s.unchanged_result
  | mclkFall =>
    apply State.awake_result
    split
    · exact .inl ⟨_, s.wire, rfl⟩
    · exact s.unchanged_result
  | symbolIn code =>
    apply State.awake_result
    dsimp only
    split
    · exact .inr ⟨_, s.mgmt, _, rfl⟩
    · exact .inl ⟨s.mgmt, _, rfl⟩
  | symbolOut =>
    show LineResult s s.symbolOut
    unfold State.symbolOut
    dsimp only
    split
    · exact .inl ⟨s.mgmt, _, rfl⟩
    · split
      · exact .inl ⟨s.mgmt, _, rfl⟩
      · exact .inr ⟨.transmitFrameEnd, s.mgmt, _, rfl⟩

/-- A step is the command at the front of the queue, an event on the lines, or nothing. -/
theorem step_cases (s : State) :
    (∃ c rest, s.pending = c :: rest ∧ step s = exec c { s with pending := rest }) ∨
    (∃ rest, s.pending = [] ∧ LineResult { s with lines := rest } (step s)) ∨ step s = .next s := by
  cases hp : s.pending with
  | cons c rest => exact .inl ⟨c, rest, rfl, step_command hp⟩
  | nil =>
    cases hl : s.lines with
    | nil => exact .inr (.inr (step_idle hp hl))
    | cons e rest =>
      have h := State.lineEvent_result e { s with lines := rest }
      rw [← step_line hp hl] at h
      exact .inr (.inl ⟨rest, rfl, by simpa only [hp] using h⟩)

end Sys2Proof.Machine
end

