-- ==== Sys2Proof/Tests/Slice0.lean ====
section
/-! SUPPORT. The model's own tests, each one command on a small state, with the data book's worked examples as the expected results; and for
each statement with hypotheses a witness that meets them, clause by clause. -/

namespace Sys2Proof.Tests

set_option Elab.async false

open Sys2Proof Sys2Proof.Machine

/-! ## The states the tests use -/

/-- The region table of the worked sequences (Table 11.1). -/
def pairTable : Vector Region 16 :=
  (((Vector.replicate 16 Region.powerOn).set 0
    { valid := true, mode := .off, policy := .stall, pattern := 0x0103, care := 0xFFFF }).set 1
    { valid := true, mode := .sync, policy := .stall, pattern := 0x0100, care := 0xFFFF }).set 2
    { valid := true, mode := .async, policy := .mark, pattern := 0x0100, care := 0xFFFC }

/-- Both parts' parameters in the worked sequences (section 11.1), with the part's own window base. -/
def pairParams (base : Addr) : Params := { Params.powerOn with windowBase := base, pairId := 5 }

/-- A Standalone part with the table and the parameters of section 11.1. -/
def alone : State := { State.reset with regions := pairTable, params := pairParams 0x20000000 }

/-- The primary of section 11.1 in session 1, MIRRORED, with an empty journal and a free transmitter. -/
def primary : State :=
  { alone with
    role := .primary, pair := { PairControl.powerOn with state := .mirrored },
    link := { Link.powerOn with state := .up, phase := .start .full, lastSession := 1, keepaliveRun := true, silence := some 5 } }

/-- The replica of section 11.1 in session 1, its queue empty. -/
def replica : State :=
  { alone with
    role := .replica, params := pairParams 0x60000000,
    link := { Link.powerOn with state := .up, lastServed := 1, continuity := true, keepaliveRun := true, silence := some 5 } }

/-- A link in training: its repeat timer runs. -/
def trainingLink (phase : TrainPhase) : Link := { Link.powerOn with state := .training, phase := phase, repeatRun := true }

/-- A transmitter in the middle of an IDLE frame. -/
def busyTx (s : State) : State := { s with link := { s.link with tx := some .idle } }

/-- A journal with the given records. -/
def holding (s : State) (rs : List Record) : State := { s with journal := { s.journal with records := rs } }

/-- A line of zeros. -/
def zeros : LineBytes := Vector.replicate 64 0

/-- A line whose bytes are all `b`. -/
def lineOfAll (b : Byte) : LineBytes := Vector.replicate 64 b

/-- A BEAT write of bytes 0xAB. -/
def beat (a : Addr) (lanes : BitVec 8) : BusTxn := { addr := a, access := .writeBeat lanes (Vector.replicate 8 0xAB) }

/-- A LINE write of bytes 0xCD. -/
def fullLine (a : Addr) : BusTxn := { addr := a, access := .writeLine (lineOfAll 0xCD) }

/-- A LINE record with a full mask. -/
def lineRec (l : LineIndex) (st : RecState) (seq : Option SeqNo) (waiter : Bool) : Record :=
  { body := .line l (BitVec.allOnes 64) zeros, state := st, seq := seq, waiter := waiter }

/-- A MARKER record. -/
def markRec (t : Tag) (st : RecState) (seq : Option SeqNo) : Record :=
  { body := .marker t, state := st, seq := seq, waiter := false }

/-- A host port that waits for the memory port with a transaction. -/
def waiting (t : BusTxn) (claim : Bool) : HostPort :=
  { HostPort.idle with state := .portWait, txn := some t, claim := claim }

/-- A transaction in memory. -/
def inMemory (o : PortOwner) (t : BusTxn) : MemPort := { MemPort.powerOn with use := some { owner := o, txn := t, limit := 12 } }

/-- The state a command leaves. -/
def after (c : Instr) (s : State) : State :=
  match exec c s with
  | .next t => t
  | .fault _ => s
  | .refused _ => s

/-! ## Well-formedness -/

/-- A START's bytes are no RECEIVE_HELLO; a HELLO's are. -/
theorem test_wf_receiveHello :
    Instr.wf (.receiveHello (LinkFrame.start 1 .full).encode) = false ∧ Instr.wf (.receiveHello [0x01]) = true := by decide +kernel

theorem test_wf_receiveStart : Instr.wf (.receiveStart [0x01]) = false := by decide

theorem test_wf_receiveReady : Instr.wf (.receiveReady [0x02]) = false := by decide

theorem test_wf_receiveData : Instr.wf (.receiveData [0x20]) = false := by decide

theorem test_wf_receiveAck : Instr.wf (.receiveAck [0x21]) = false := by decide

theorem test_wf_receiveNak : Instr.wf (.receiveNak [0x20]) = false := by decide

theorem test_wf_receiveIdle : Instr.wf (.receiveIdle [0x3F]) = false := by decide

theorem test_wf_receiveHalt : Instr.wf (.receiveHalt [0x30]) = false := by decide

/-- STATUS's byte names a command. -/
theorem test_wf_unknownCommand : Instr.wf (.unknownCommand 0x01) = false ∧ Instr.wf (.unknownCommand 0x02) = true := by decide

/-- SET ROLE with its argument is complete; without it the frame is short. -/
theorem test_wf_shortFrame : Instr.wf (.shortFrame [0x20, 0x01]) = false ∧ Instr.wf (.shortFrame [0x20]) = true := by decide

/-- No row of the table has bits. -/
theorem test_decode_no_row_has_bits : decodeTableWord 8 0x01 = none := by decide

/-! ## Operand forms -/

/-- The ACK frame of section 10.2: 0x20, 0x2A and four CRC bytes. The CRC is worked by hand from R75: generator 0x04C11DB7, most significant
bit first, register all ones at the start, inverted at the end. -/
theorem test_ack_frame_bytes : (LinkFrame.ack 0x2A).encode.take 2 = [0x20, 0x2A] ∧ (LinkFrame.ack 0x2A).encode.length = 6 := by
  decide +kernel

/-- The published check value of the CRC with these settings, over the ASCII digits 1 to 9. -/
theorem test_crc_check_value : crc32 [0x31, 0x32, 0x33, 0x34, 0x35, 0x36, 0x37, 0x38, 0x39] = 0xFC891918 := by decide +kernel

/-- Table 10.6: HELLO's fields and flag bits, and START's. -/
theorem test_hello_and_start_bytes :
    LinkFrame.body (.hello { role := .replica, pairId := 0x0105, session := 0x0002, continuity := true, queueEmpty := true }) =
      [0x02, 0x01, 0x05, 0x00, 0x02, 0x03] ∧
    LinkFrame.body (.start 0x0102 .incremental) = [0x01, 0x02, 0x02] := by decide

/-- R181: a DATA LINE frame is 84 symbols with its delimiters; mask byte i holds the flags of line bytes 8i to 8i + 7. -/
theorem test_data_line_bytes :
    (LinkFrame.data 7 (.line 0x3FFFFF 0x8000000000000001 zeros)).encode.length = 82 ∧
    (LinkFrame.data 7 (.line 0x3FFFFF 0x8000000000000001 zeros)).encode.take 14 =
      [0x10, 0x07, 0x01, 0x3F, 0xFF, 0xFF, 0x01, 0, 0, 0, 0, 0, 0, 0x80] := by decide +kernel

/-- R181's range checks: a reserved HELLO flag, session 0 in a START, a line index above 4,194,303, an empty LINE mask. -/
theorem test_range_checks :
    parseContent [0x01, 0x01, 0, 5, 0, 0, 0x04] = none ∧ parseContent [0x02, 0, 0, 0x01] = none ∧
    parseContent ([0x10, 7, 0x02, 0x40, 0, 0] ++ List.replicate 64 0) = none ∧
    parseContent ([0x10, 7, 0x01, 0, 0, 0] ++ List.replicate 72 0) = none := by decide +kernel

/-- The example of Table 1.2: blocks 16, 19, 32 and 4,096. -/
theorem test_overlapping_entries :
    let rs : Vector Region 16 :=
      (((Vector.replicate 16 Region.powerOn).set 2
        { valid := true, mode := .off, policy := .stall, pattern := 0x0010, care := 0xFFFF }).set 5
        { valid := true, mode := .sync, policy := .stall, pattern := 0x0010, care := 0xFFFC }).set 9
        { valid := true, mode := .async, policy := .mark, pattern := 0x0000, care := 0xF000 }
    blockOf 0x40000000 0x40010040 = some 16 ∧ lineOf 0x40000000 0x40010040 = 1025 ∧
    (blockMode rs 16, blockMode rs 19, blockMode rs 32, blockMode rs 4096) = (.off, .sync, .async, .off) ∧
    (blockPolicy rs 19, blockPolicy rs 32) = (.stall, .mark) := by decide +kernel

/-- Table 11.1's mirrored blocks. -/
theorem test_mirrored_blocks_of_the_pair : mirroredBlocks pairTable = [256, 257, 258] := by decide +kernel

/-- The partial line of Table 6.4: two BEAT writes, of beats 2 and 5. -/
theorem test_partial_line_beats :
    (recordTxns 0x80000000 (.line 4161 0x0000FF00000F0000 zeros)).map (fun t => t.addr) = [0x80041050, 0x80041068] ∧
    (recordTxns 0x80000000 (.line 4161 0x0000FF00000F0000 zeros)).map (fun t => match t.access with
      | .writeBeat lanes _ => lanes
      | _ => 0) = [0x0F, 0xFF] := by decide +kernel

/-! ## The host port -/

/-- Section 11.3: the LINE write A takes a claim. -/
theorem test_arrival_takes_a_claim :
    (after (.arrival (fullLine 0x20101080)) primary).host.claim = true ∧
    (after (.arrival (fullLine 0x20101080)) primary).host.state = .portWait := by decide +kernel

/-- Table 1.5: a write to a clean STALL block meets a full journal. -/
theorem test_arrival_stalls_at_a_full_journal :
    let s := busyTx (holding primary (List.replicate 256 (lineRec 1 .queued none false)))
    (after (.arrival (beat 0x20100040 0xFF)) s).host.state = .spaceWait ∧
    (after (.arrival (beat 0x20100040 0xFF)) s).host.timer = some 250 := by decide +kernel

theorem test_init_in_port_wait_releases_the_claim :
    (after .init { primary with host := waiting (fullLine 0x20101080) true }).host = HostPort.idle := by decide +kernel

/-- Section 11.3: A is appended, with all 64 flags, and its claim becomes the record. -/
theorem test_hostGrant_appends :
    let s := busyTx { primary with host := waiting (fullLine 0x20101080) true }
    (after .hostGrant s).journal.records =
      [{ body := .line 16450 (BitVec.ofNat 64 (2 ^ 64 - 1)) (lineOfAll 0xCD), state := .queued, seq := none, waiter := false }] ∧
    (after .hostGrant s).freeSlots = 255 := by decide +kernel

/-- Section 11.3: B merges into A's QUEUED record and releases its claim; bytes 8 to 11 are B's. -/
theorem test_hostGrant_merges :
    let s := busyTx { holding primary [lineRec 16450 .queued none false] with host := waiting (beat 0x20101088 0x0F) true }
    ((after .hostGrant s).journal.records.map fun r => match r.body with
      | .line _ _ d => (d[7], d[8], d[11], d[12])
      | _ => (0, 0, 0, 0)) = [(0, 0xAB, 0xAB, 0)] ∧
    (after .hostGrant s).freeSlots = 255 := by decide +kernel

theorem test_hostMemoryCompletion_answers_a_read :
    (after (.hostMemoryCompletion (lineOfAll 0x5A))
      { alone with host := { HostPort.idle with state := .inMemory, txn := some ⟨8, .readBeat⟩ }, mem := inMemory .host ⟨8, .readBeat⟩ }).host.answer =
      some (.doneBeat (Vector.replicate 8 0x5A)) := by decide +kernel

/-- R17: FAULT, the counter, and on a primary the write's block dirty. -/
theorem test_hostMemoryTimeout_marks_the_block :
    let t := beat 0x20102008 0xFF
    let s := { primary with host := { HostPort.idle with state := .inMemory, txn := some t }, mem := inMemory .host t }
    (after .hostMemoryTimeout s).map.flags = [258] ∧ (after .hostMemoryTimeout s).host.answer = some .fault ∧
    (after .hostMemoryTimeout s).counter .memoryTimeouts = 1 := by decide +kernel

theorem test_abandonedTransactionAnswer_is_discarded : after (.abandonedTransactionAnswer zeros) primary = primary := by decide +kernel

/-- Table 1.5's last paragraph: the expiry marks the block and the write waits for the port without a claim. -/
theorem test_spaceWaitExpiry_marks :
    let s := { primary with host := { HostPort.idle with
      state := .spaceWait, txn := some (beat 0x20100040 0xFF), noted := some ⟨256, .sync, .stall⟩, timer := some 250 } }
    (after .spaceWaitExpiry s).map.flags = [256] ∧ (after .spaceWaitExpiry s).counter .stallTimeouts = 1 ∧
    (after .spaceWaitExpiry s).host.state = .portWait := by decide +kernel

/-- Section 11.3's last paragraph: the hold expires, and the waiter is cleared. -/
theorem test_syncHoldExpiry_answers :
    let s := { holding primary [lineRec 16385 .sent (some 241) true] with
      host := { HostPort.idle with state := .syncHold, txn := some (beat 0x20100040 0xFF), bound := true, timer := some 250 } }
    (after .syncHoldExpiry s).host.answer = some .doneWrite ∧ (after .syncHoldExpiry s).journal.records.map Record.waiter = [false] ∧
    (after .syncHoldExpiry s).counter .syncTimeouts = 1 := by decide +kernel

/-! ## The repair sweep -/

/-- A primary whose sweep holds the flags and the cursor given. -/
def scanning (flags : List Block) (cursor : Block) : State :=
  busyTx { primary with map := { flags := flags, count := flags.length, cursor := cursor },
                        sweep := { Sweep.powerOn with state := .scanning } }

/-- Table 11.6: the search starts at 259, wraps and finds 256. -/
theorem test_selection_wraps :
    (after .selection (scanning [256, 257, 258] 259)).map = { flags := [257, 258], count := 2, cursor := 257 } ∧
    (after .selection (scanning [256, 257, 258] 259)).sweep.copy = some ⟨256, 0⟩ := by decide +kernel

/-- A primary with block 256 in copy at a line whose read is requested, or in memory with its placeholder in the journal. -/
def copying (line : BitVec 6) (read : Bool) : State :=
  let s := busyTx { primary with
    pair := { PairControl.powerOn with state := .repairing },
    sweep := { Sweep.powerOn with
      state := .copying, copy := some ⟨256, line⟩, request := !read,
      read := if read then some ⟨Copy.lineIndex ⟨256, line⟩, true⟩ else none } }
  if read then
    { holding s [placeholder (Copy.lineIndex ⟨256, line⟩)] with
      mem := inMemory .sweep ⟨lineAddr 0x20000000 (Copy.lineIndex ⟨256, line⟩), .readLine⟩ }
  else s

/-- Table 11.3: the placeholder for line 16,384, and the read at 0x2010_0000. -/
theorem test_sweepGrant_begins_the_read :
    (after .sweepGrant (copying 0 false)).journal.records = [{ body := .image 16384 none, state := .filling, seq := none, waiter := false }] ∧
    (after .sweepGrant (copying 0 false)).mem.use.map (fun u => u.txn) = some ⟨0x20100000, .readLine⟩ := by decide +kernel

/-- Table 11.3: line 63 ends the copy of block 256. -/
theorem test_sweepReadCompletion_ends_the_copy :
    (after (.sweepReadCompletion (lineOfAll 1)) (copying 63 true)).journal.records.map (fun r => (r.state, r.body)) =
      [(.queued, .image 16447 (some (lineOfAll 1)))] ∧
    (after (.sweepReadCompletion (lineOfAll 1)) (copying 63 true)).counter .sweepBlocksCopied = 1 ∧
    (after (.sweepReadCompletion (lineOfAll 1)) (copying 63 true)).pair.state = .mirrored := by decide +kernel

/-- Table 3.5: the fourth timeout stops the sweep. -/
theorem test_sweepReadTimeout_fourth_stops :
    let s := { copying 0 true with sweep := { (copying 0 true).sweep with timeouts := 3 } }
    (after .sweepReadTimeout s).sweep.state = .stopped ∧ (after .sweepReadTimeout s).map.flags = [256] ∧
    (after .sweepReadTimeout s).cause .sweepFault = { state := .raised, count := 1 } ∧
    (after .sweepReadTimeout s).journal.records = [] := by decide +kernel

/-- A primary with an orphaned read in memory. -/
def orphaned : State :=
  { primary with sweep := { Sweep.powerOn with read := some ⟨16384, false⟩ }, mem := inMemory .sweep ⟨0x20100000, .readLine⟩ }

theorem test_orphanedReadCompletion_frees_the_port :
    (after (.orphanedReadCompletion zeros) orphaned) = { primary with mem := MemPort.powerOn } := by decide +kernel

theorem test_orphanedReadTimeout_counts_nothing :
    (after .orphanedReadTimeout orphaned) = { primary with mem := MemPort.powerOn } := by decide +kernel

/-! ## The pair link and the sender -/

/-- A primary in the training of its first session (Table 11.2). -/
def training : State :=
  busyTx { alone with role := .primary, link := trainingLink .hello, pair := { PairControl.powerOn with state := .degraded },
                      map := { flags := [256, 257, 258], count := 3, cursor := 0 } }

/-- Table 11.2: the replica's first HELLO gives FULL and session 1. -/
theorem test_receiveHello_decides_full :
    let h : Hello := { role := .replica, pairId := 5, session := 0, continuity := false, queueEmpty := true }
    let s := after (.receiveHello (LinkFrame.hello h).encode) training
    s.link.phase = .start .full ∧ s.link.lastSession = 1 ∧ s.map.count = 3 ∧ s.map.cursor = 0 ∧ s.link.due.start = true := by
  decide +kernel

/-- Table 4.3: 1 is last session and continuity is set, so the second session is INCREMENTAL with number 2. -/
theorem test_receiveHello_decides_incremental :
    let h : Hello := { role := .replica, pairId := 5, session := 1, continuity := true, queueEmpty := true }
    let s := after (.receiveHello (LinkFrame.hello h).encode) { training with link := { training.link with lastSession := 1 } }
    s.link.phase = .start .incremental ∧ s.link.lastSession = 2 := by decide +kernel

/-- Table 11.2: START (1, FULL) taken by the replica. -/
theorem test_receiveStart_opens :
    let s := after (.receiveStart (LinkFrame.start 1 .full).encode)
      (busyTx { replica with link := { trainingLink .hello with lastServed := 0 } })
    s.link.state = .up ∧ s.link.lastServed = 1 ∧ s.link.continuity = true ∧ s.receiver.expected = 0 ∧
      s.receiver.appliedThrough = 255 ∧ s.link.due.ready = true ∧ s.cause .linkUp = { state := .raised, count := 1 } := by
  decide +kernel

/-- Table 11.2: READY (1) taken by the primary, with three dirty blocks. -/
theorem test_receiveReady_brings_the_link_up :
    let s := after (.receiveReady (LinkFrame.ready 1).encode)
      { training with link := { training.link with phase := .start .full, lastSession := 1 } }
    s.link.state = .up ∧ s.sweep.state = .scanning ∧ s.pair.state = .repairing := by decide +kernel

/-- The replica of Table 6.2: expected 20, records 18 and 19 queued, 18 in application. -/
def lagging : State :=
  busyTx { replica with
    receiver := { queue := [⟨18, .image 1 zeros⟩, ⟨19, .image 2 zeros⟩], expected := 20, appliedThrough := 17, nakPending := false },
    apply := { state := .applying, todo := [fullLine 0x60000040], request := true } }

/-- Table 6.2: DATA 20 has lag 0 and is accepted. -/
theorem test_receiveData_in_order :
    let s := after (.receiveData (LinkFrame.data 20 (.marker 9)).encode) lagging
    s.receiver.expected = 21 ∧ s.receiver.queue.map QueueRecord.seq = [18, 19, 20] := by decide +kernel

/-- Table 6.2: DATA 22 before DATA 21 has lag 255; a NAK is due. -/
theorem test_receiveData_ahead :
    let s := after (.receiveData (LinkFrame.data 22 (.marker 9)).encode)
      { lagging with receiver := { lagging.receiver with expected := 21 } }
    s.receiver.nakPending = true ∧ s.link.due.nak = true ∧ s.receiver.expected = 21 := by decide +kernel

/-- The primary of Table 5.3 once A to D have been sent: 254, 255, 0 and 1 outstanding, E and F QUEUED. -/
def wrapped : State :=
  busyTx { holding primary
    [lineRec 16448 .sent (some 254) false, lineRec 16449 .sent (some 255) false, lineRec 16450 .sent (some 0) false,
     lineRec 16451 .sent (some 1) false, lineRec 16452 .queued none false, lineRec 16453 .queued none false] with
    sender := { next := 2, retries := 0, timer := some 400 }, params := { primary.params with windowSize := 4 } }

/-- Table 5.3: ACK 255 is at distance 1 and removes two records. -/
theorem test_receiveAck_across_the_wrap :
    (after (.receiveAck (LinkFrame.ack 255).encode) wrapped).journal.records.map Record.seq =
      [some 0, some 1, none, none] := by decide +kernel

/-- Table 5.3: ACK 253 is out of range and changes nothing. -/
theorem test_receiveAck_out_of_range :
    (after (.receiveAck (LinkFrame.ack 253).encode) wrapped).journal = wrapped.journal := by decide +kernel

/-- Table 5.3's NAK 2 removes C and D and rewinds E and F; here 0 names C: A and B go, C and D are rewound. -/
theorem test_receiveNak_removes_and_rewinds :
    (after (.receiveNak (LinkFrame.nak 0).encode) wrapped).journal.records.map (fun r => (r.state, r.seq)) =
      [(.resend, some 0), (.resend, some 1), (.queued, none), (.queued, none)] ∧
    (after (.receiveNak (LinkFrame.nak 0).encode) wrapped).counter .naksReceived = 1 := by decide +kernel

/-- R106: a NAK stops before a marker. -/
theorem test_receiveNak_holds_a_marker_back :
    let s := busyTx { holding primary [lineRec 16448 .sent (some 7) false, markRec 500 .sent (some 8), lineRec 16449 .sent (some 9) false] with
      sender := { next := 10, retries := 0, timer := some 400 } }
    (after (.receiveNak (LinkFrame.nak 9).encode) s).journal.records.map Record.seq = [some 8, some 9] := by decide +kernel

theorem test_receiveIdle_restarts_silence :
    (after (.receiveIdle LinkFrame.idle.encode) { primary with params := { primary.params with silenceLimit := 9 } }).link.silence = some 9 := by
  decide +kernel

theorem test_receiveHalt_halts :
    (after (.receiveHalt (LinkFrame.halt .applyFault).encode) primary).link.haltRecord = some ⟨.applyFault, .received⟩ ∧
    (after (.receiveHalt (LinkFrame.halt .applyFault).encode) primary).link.state = .halted := by decide +kernel

/-- The line fault of section 10.2's example: a truncated frame of one byte. -/
theorem test_truncatedFrame_is_counted :
    (after (.truncatedFrame [0x20] .invalidSymbol) primary).counter .framesDiscarded = 1 := by decide +kernel

theorem test_repeatTimerExpiry_makes_hello_due : (after .repeatTimerExpiry training).link.due.hello = true := by decide +kernel

theorem test_keepaliveTimerExpiry_sends_idle : (after .keepaliveTimerExpiry primary).link.tx = some .idle := by decide +kernel

/-- Table 7.5's session end: the marker fails, the oldest result is dropped, the record's block becomes dirty. -/
theorem test_silenceTimerExpiry_ends_the_session :
    let results : List MarkerResult := [101, 102, 103, 104, 105, 106, 500, 500].map fun t => ⟨t, .reached⟩
    let s := { holding primary [lineRec 16450 .sent (some 34) false, markRec 77 .sent (some 35)] with
      pair := { state := .mirrored, outstanding := [77], results := results } }
    (after .silenceTimerExpiry s).pair.results = results.drop 1 ++ [⟨77, .failed⟩] ∧
    (after .silenceTimerExpiry s).map.flags = [257] ∧ (after .silenceTimerExpiry s).link.state = .training := by decide +kernel

/-- Table 5.2, first expiry. -/
theorem test_retransmitTimerExpiry_rewinds :
    let s := after .retransmitTimerExpiry wrapped
    s.sender = { next := 2, retries := 1, timer := some 400 } ∧ s.journal.records.countP (fun r => r.state == .resend) = 4 := by
  decide +kernel

/-- Table 5.2, last expiry: HALT with RETRY_EXHAUSTED and a session end. -/
theorem test_retransmitTimerExpiry_exhausts :
    let s := after .retransmitTimerExpiry { wrapped with sender := { wrapped.sender with retries := 5 } }
    s.link.haltRecord = some ⟨.retryExhausted, .sent⟩ ∧ s.journal.records = [] ∧ s.map.flags = [257] := by decide +kernel

/-- Table 11.4: L1 is sent as #240 and the timer starts again. -/
theorem test_transmitFrameEnd_sends_data :
    let s := after .transmitFrameEnd (busyTx { holding primary [lineRec 16450 .queued none false] with
      sender := { Sender.powerOn with next := 240 } })
    s.link.tx = some (.data 240 (.line 16450 (BitVec.ofNat 64 (2 ^ 64 - 1)) zeros)) ∧ s.sender.next = 241 ∧ s.sender.timer = some 400 := by
  decide +kernel

/-- Table 5.3: with the window of 4 full, E is held back. -/
theorem test_transmitFrameEnd_window_full : (after .transmitFrameEnd wrapped).link.tx = none := by decide +kernel

/-! ## The replica -/

theorem test_applyGrant_starts_the_write :
    (after .applyGrant lagging).mem = { use := some ⟨.apply, fullLine 0x60000040, 12⟩, sweepWait := 0, applyRun := 1 } := by
  decide +kernel

/-- Table 6.2: record 18 is applied, an ACK is due, and 19 is taken. -/
theorem test_applyCompletion_applies :
    let s := after .applyCompletion { lagging with mem := inMemory .apply (fullLine 0x60000040) }
    s.receiver.appliedThrough = 18 ∧ s.link.due.ack = true ∧ s.counter .recordsApplied = 1 ∧
      s.apply.todo.map (fun t => t.addr) = [0x60000080] := by decide +kernel

theorem test_applyTimeout_faults :
    let s := after .applyTimeout { lagging with mem := inMemory .apply (fullLine 0x60000040) }
    s.apply.state = .fault ∧ s.receiver.queue.length = 2 ∧ s.link.continuity = false ∧ s.link.state = .halted ∧
      s.link.due.halt = some .applyFault := by decide +kernel

/-! ## The management port -/

/-- Table 10.4 on a primary in session 1 with two markers outstanding. -/
theorem test_status_bytes :
    (after .status { holding primary [markRec 1 .queued none, markRec 2 .queued none] with
      pair := { state := .mirrored, outstanding := [1, 2], results := [] } }).mgmt.response =
      [0x01, 0x03, 0x02, 0x00, 0x00, 0x00, 0x02, 0x00, 0x00, 0x00, 0x02, 0x00, 0x00, 0x01, 0x00, 0x00] := by decide +kernel

theorem test_readRegion_returns_the_entry :
    (after (.readRegion 2) primary).mgmt.response = [0x01, 0x01, 0x01, 0x01, 0x00, 0xFF, 0xFC] ∧
    (after (.readRegion 16) primary).mgmt.result = some .badArg := by decide +kernel

/-- R162: the match pattern is stored with every bit clear where the care pattern is 0. -/
theorem test_writeRegion_normalises :
    ((after (.writeRegion 15 1 2 1 0xABCD 0xFF00) alone).regions[15]).pattern = 0xAB00 ∧
    (after (.writeRegion 15 1 2 1 0xABCD 0xFF00) primary).mgmt.result = some .badState := by decide +kernel

theorem test_readParam_default : (after (.readParam 0x05) alone).mgmt.response = [0x00, 0x00, 0x01, 0x90] := by decide +kernel

/-- R164: HIGH_WATER must be above LOW_WATER, 160 by default. -/
theorem test_writeParam_water_marks :
    (after (.writeParam 0x09 160) alone).mgmt.result = some .badArg ∧ (after (.writeParam 0x09 161) alone).params.highWater = 161 := by
  decide +kernel

/-- Table 11.2: SET ROLE Primary fills the map with three blocks. -/
theorem test_setRole_primary :
    let s := after (.setRole 0x01) alone
    s.role = .primary ∧ s.map.count = 3 ∧ s.link.state = .training ∧ s.pair.state = .degraded := by decide +kernel

/-- R140: from an open session the HALT says ROLE_CHANGE. -/
theorem test_setRole_leaves_primary :
    let s := after (.setRole 0x00) primary
    s.role = .standalone ∧ s.link.tx = some (.halt .roleChange) ∧ s.link.lastSession = 0 ∧ s.link.state = .off := by decide +kernel

/-- Table 3.5: START REPAIR restarts a sweep that SWEEP_FAULT stopped. -/
theorem test_startRepair_restarts :
    let s := { scanning [256] 41 with sweep := { Sweep.powerOn with state := .stopped, timeouts := 4 } }
    (after .startRepair s).sweep.state = .scanning ∧ (after .startRepair s).sweep.timeouts = 0 := by decide +kernel

theorem test_stopRepair_gives_the_block_back :
    (after .stopRepair (copying 5 false)).map.flags = [256] ∧ (after .stopRepair (copying 5 true)).sweep.stopPending = true := by
  decide +kernel

/-- Table 7.5: a marker is placed; with the link down it is refused. -/
theorem test_placeMarker_appends :
    (after (.placeMarker 500) (busyTx primary)).pair.outstanding = [500] ∧
    (after (.placeMarker 78) training).mgmt.result = some .badState := by decide +kernel

theorem test_readMarkers_empties_the_results :
    let s := after .readMarkers { primary with pair := { state := .mirrored, outstanding := [], results := [⟨0x01F4, .reached⟩, ⟨77, .failed⟩] } }
    s.mgmt.response = [0, 2, 0x01, 0xF4, 0x01, 0x00, 0x4D, 0x02] ∧ s.pair.results = [] := by decide +kernel

theorem test_relink_sends_the_halt_first :
    let s := after .relink { primary with link := { Link.powerOn with state := .halted, due := { Due.nothing with halt := some .retryExhausted } } }
    s.link.state = .training ∧ s.link.tx = some (.halt .retryExhausted) ∧ s.link.due.hello = true := by decide +kernel

/-- Table 6.5: PROMOTE with the link UP and records queued. -/
theorem test_promote_drains :
    let s := after .promote { lagging with link := { lagging.link with tx := none } }
    s.role = .promoting ∧ s.link.state = .off ∧ s.link.continuity = false ∧ s.link.tx = some (.halt .promoted) ∧
      s.receiver.queue.length = 2 := by decide +kernel

theorem test_clearFault_empties_the_queue :
    (after .clearFault { lagging with apply := { state := .fault, todo := [], request := false } }).receiver.queue = [] ∧
    (after .clearFault lagging).mgmt.result = some .badState := by decide +kernel

/-- Two causes RAISED, LINK_LOST and MARKER_FAILED, both enabled (Table 8.6); the second has a count of 3. -/
def alarmed : State :=
  let causes : Vector Cause 15 :=
    ((Vector.replicate 15 { state := .clear, count := 0 }).set 1 { state := .raised, count := 1 }).set 9 { state := .raised, count := 3 }
  { primary with alert := { causes := causes, enables := 0x0202, line := true } }

/-- Table 8.6: READ ALERTS returns both causes and the line is deasserted. -/
theorem test_readAlerts_reports :
    (after .readAlerts alarmed).mgmt.response = [2, 1, 1, 9, 3] ∧
    (after .readAlerts alarmed).alert.line = false := by decide +kernel

/-- Table 9.3: a RAISED cause is not acknowledged; a mask with bit 15 is refused. -/
theorem test_ackAlerts_leaves_raised :
    (after (.ackAlerts 0x7FFF) alarmed).cause .linkLost = { state := .raised, count := 1 } ∧
    (after (.ackAlerts 0x8000) alarmed).mgmt.result = some .badArg := by decide +kernel

theorem test_setAlertEnables_moves_the_line : (after (.setAlertEnables 0x0001) alarmed).alert.line = false := by decide +kernel

theorem test_readCounters_clears_its_selection :
    let s := after (.readCounters 2 1 1) { primary with counters := Vector.replicate 12 0x01020304 }
    s.mgmt.response = [1, 1, 2, 3, 4] ∧ s.counter .naksReceived = 0 ∧ s.counter .framesDiscarded = 0x01020304 := by decide +kernel

theorem test_resetPart_keeps_table_and_parameters :
    let s := after .resetPart alarmed
    s.role = .standalone ∧ s.regions = pairTable ∧ s.params = pairParams 0x20000000 ∧ s.alert = AlertUnit.powerOn ∧
      s.link = Link.powerOn := by decide +kernel

theorem test_unknownCommand_result : (after (.unknownCommand 0x7F) primary).mgmt.result = some .unknown := by decide +kernel

theorem test_shortFrame_acts_on_nothing : after (.shortFrame [0x20]) primary = primary := by decide +kernel

theorem test_frameEnd_deselects : after .frameEnd (after .status primary) = primary := by decide +kernel

/-! ## The lines -/

/-- The state that line events leave, one step for each. -/
def afterLines (es : List LineEvent) (s : State) : State :=
  es.foldl (fun s e => match step { s with lines := [e] } with
    | .next t => t
    | .fault _ => s
    | .refused _ => s) s

/-- The edges of the clock that carry a byte in. -/
def clocked (b : Byte) : List LineEvent := (List.range 8).flatMap fun i => [.mclkRise (b.getMsbD i), .mclkFall]

/-- Section 8.1: a SET ROLE frame takes effect at the last bit of its argument, and not before. -/
theorem test_lines_bring_a_command :
    (afterLines (.mselFall :: clocked 0x20 ++ (clocked 0x01).take 14) alone).role = .standalone ∧
    (afterLines (.mselFall :: clocked 0x20 ++ clocked 0x01) alone).role = .primary := by decide +kernel

/-- R154: a rise of MSEL before the last bit leaves no trace. -/
theorem test_lines_short_frame_leaves_no_trace :
    afterLines (.mselFall :: clocked 0x20 ++ (clocked 0x01).take 14 ++ [.mselRise]) alone = alone := by decide +kernel

/-- Table 8.1: two bytes 0xFF, the result UNKNOWN (0x04, R179), then fill; the first bit of the result is 0. -/
theorem test_lines_answer_shifts_out :
    let s := afterLines (.mselFall :: clocked 0x7F ++ clocked 0 ++ clocked 0) primary
    s.mgmt.byteOut = some 0x04 ∧ s.mdoPin = .low ∧ (afterLines (clocked 0) s).mgmt.byteOut = some 0xFF := by decide +kernel

/-- The published symbols K28.5 and D21.5, and FILL in both columns. -/
theorem test_line_code_symbols :
    symbolCode .negative .fill = 0b0011111010 ∧ symbolCode .positive .fill = 0b1100000101 ∧
    symbolCode .negative (.data 0xB5) = 0b1010101010 ∧ symbolCode .positive (.data 0xB5) = 0b1010101010 ∧
    symbolCode .negative (.data 0x00) = 0b1001110100 := by decide +kernel

/-- A state after the symbols given are received, each in the column of the receiver's running disparity. -/
def receiving (ys : List LineSymbol) (s : State) : State :=
  ys.foldl (fun s y => afterLines [.symbolIn (symbolCode s.wire.rxDisparity y)] s) s

/-- Section 10.2: an ACK's symbols remove what it acknowledges; cut by FILL after one byte, the frame is only counted. -/
theorem test_line_symbols_bring_a_frame :
    (receiving (LinkFrame.ack 255).symbols wrapped).journal.records.length = 4 ∧
    (receiving [.startOfFrame, .data 0x20, .fill] wrapped).journal.records.length = 6 ∧
    (receiving [.startOfFrame, .data 0x20, .fill] wrapped).counter .framesDiscarded = 1 := by decide +kernel

/-- R180: a frame ends with its END-OF-FRAME; an IDLE frame has seven symbols. -/
theorem test_line_frame_ends_with_its_last_symbol :
    (afterLines (List.replicate 6 .symbolOut) (busyTx primary)).link.tx = some .idle ∧
    (afterLines (List.replicate 7 .symbolOut) (busyTx primary)).link.tx = none := by decide +kernel

/-- R73: a frame due at the end of another is begun there, and FILL comes first on the line. -/
theorem test_line_fill_separates_frames :
    let s := busyTx { primary with link := { primary.link with due := { Due.nothing with ack := true } } }
    let t := afterLines (List.replicate 7 .symbolOut) s
    t.link.tx = some (.ack 255) ∧ t.symbolSent = .fill ∧ ({ t with wire := { t.wire with fillDue := 0 } }).symbolSent = .startOfFrame := by
  decide +kernel

/-! ## Resets -/

theorem test_powerOnReset_restores_the_table :
    (after (.powerOnReset (.resetPin 1000)) primary).regions = Vector.replicate 16 Region.powerOn ∧
    (after (.powerOnReset (.resetPin 1000)) primary).inReset = true := by decide +kernel

theorem test_resetRelease_waits_for_a_rise :
    (after (.resetRelease true) { State.reset with inReset := true }).mgmt.phase = .waitingForRise ∧
    after (.resetRelease false) { State.reset with inReset := true } = State.reset := by decide +kernel

theorem test_step_idles : step State.reset = .next State.reset := by rfl

/-! ## Witnesses: for each statement with hypotheses, states and operands that meet them, clause by clause -/

/-- A primary with a copy under way, a read in memory, a bound write held, a marker outstanding and a dirty block. -/
def busyPrimary : State :=
  { busyTx (holding primary [lineRec 16384 .sent (some 7) true, markRec 500 .sent (some 8), placeholder 16448]) with
    pending := [.sweepReadCompletion zeros],
    sender := { next := 9, retries := 2, timer := some 400 },
    map := { flags := [258], count := 1, cursor := 258 },
    sweep := { Sweep.powerOn with state := .copying, copy := some ⟨257, 0⟩, read := some ⟨16448, true⟩, timeouts := 3 },
    mem := inMemory .sweep ⟨0x20101000, .readLine⟩,
    host := { HostPort.idle with state := .syncHold, txn := some (beat 0x20100000 0xFF), bound := true, timer := some 250 },
    pair := { state := .repairing, outstanding := [500], results := [] } }

/-- A replica in promotion, with a record in application and a host read waiting. -/
def busyReplica : State :=
  { lagging with
    pending := [.applyCompletion], role := .promoting,
    link := { Link.powerOn with tx := some (.halt .promoted) },
    mem := inMemory .apply (fullLine 0x60000040), apply := { state := .applying, todo := [fullLine 0x60000040], request := false },
    host := waiting ⟨0x60103000, .readBeat⟩ false }

theorem mapLaw_busyPrimary : MapLaw busyPrimary := by
  refine ⟨by decide, by decide, ?_, by decide, ?_, ?_, by decide, by decide⟩
  · intro b hb
    have h : b = 258 := by simpa [busyPrimary] using hb
    subst h
    decide +kernel
  · intro b hb
    have h : b = 256 ∨ 257 = b := by
      simpa [busyPrimary, holding, busyTx, lineRec, markRec, placeholder, Record.block?, lineBlock] using hb
    rcases h with h | h <;> subst h <;> decide +kernel
  · intro c hc
    have h : c = ⟨257, 0⟩ := by simpa [busyPrimary] using hc.symm
    subst h
    decide +kernel

theorem mapLaw_busyReplica : MapLaw busyReplica := by
  refine ⟨by decide, by decide, ?_, by decide, ?_, ?_, by decide, by decide⟩
  · intro b hb
    simp [busyReplica, lagging, busyTx, replica, alone, State.reset, DirtyMap.clean] at hb
  · intro b hb
    simp [busyReplica, lagging, busyTx, replica, alone, State.reset, Journal.powerOn] at hb
  · intro c hc
    simp [busyReplica, lagging, busyTx, replica, alone, State.reset, Sweep.powerOn] at hc

/-- Witness for every StepKeeps statement: two states that every law holds in, and whose step has a next state. -/
theorem witness_StepKeepsLaws :
    (AlertLaw busyPrimary ∧ PairLaw busyPrimary ∧ SweepLaw busyPrimary ∧ MapLaw busyPrimary ∧ FenceLaw busyPrimary ∧
      CapacityLaw busyPrimary ∧ MarkerLaw busyPrimary ∧ JournalLaw busyPrimary ∧ BindingLaw busyPrimary ∧ HostLaw busyPrimary ∧
      LinkLaw busyPrimary ∧ TransmitterLaw busyPrimary ∧ ReplicaLaw busyPrimary) ∧
    (AlertLaw busyReplica ∧ PairLaw busyReplica ∧ SweepLaw busyReplica ∧ MapLaw busyReplica ∧ FenceLaw busyReplica ∧
      CapacityLaw busyReplica ∧ MarkerLaw busyReplica ∧ JournalLaw busyReplica ∧ BindingLaw busyReplica ∧ HostLaw busyReplica ∧
      LinkLaw busyReplica ∧ TransmitterLaw busyReplica ∧ ReplicaLaw busyReplica) ∧
    (∃ t, step busyPrimary = .next t) ∧ ∃ t, step busyReplica = .next t := by
  refine ⟨⟨?_, ?_, ?_, mapLaw_busyPrimary, ?_, ?_, ?_, ?_, ?_, ?_, ?_, ?_, ?_⟩,
    ⟨?_, ?_, ?_, mapLaw_busyReplica, ?_, ?_, ?_, ?_, ?_, ?_, ?_, ?_, ?_⟩, ⟨_, rfl⟩, ⟨_, rfl⟩⟩ <;> decide +kernel

theorem witness_StepRunsTheFrontCommand :
    busyPrimary.pending = .sweepReadCompletion zeros :: [] ∧ (primary.pending = [] ∧ primary.lines = []) ∧
    (let s := { primary with lines := [.mselFall, .mclkFall] }
     s.pending = [] ∧ s.lines = .mselFall :: [.mclkFall]) := by decide

theorem witness_ReceiverReadsEveryFrameSent :
    LinkFrame.wf (.start 0xFFFF .incremental) = true ∧ LinkFrame.wf (.ready 1) = true ∧
    LinkFrame.wf (.data 255 (.line 0x3FFFFF 1 zeros)) = true ∧ LinkFrame.wf (.halt .promoted) = true := by decide

theorem witness_ValidBytesAreALayout :
    checkFrame (LinkFrame.idle.encode) = some .idle ∧
    checkFrame ((LinkFrame.data 255 (.image 0x3FFFFF zeros)).encode) = some (.data 255 (.image 0x3FFFFF zeros)) := by decide +kernel

/-- The top window; a read; a write of no lane; an aligned line; a misaligned line over the window's end, and one over a block's end. -/
theorem witness_TouchedBlocksAreFew :
    (0xF0000000 : Addr).extractLsb' 0 28 = 0 ∧ isWriteTxn ⟨0xF0000000, .readLine⟩ = false ∧
    (beat 0xF0000000 0).access = .writeBeat 0 (Vector.replicate 8 0xAB) ∧ misalignedLineWrite (fullLine 0xFFFFFFC0) = false ∧
    misalignedLineWrite (fullLine 0xFFFFFFC1) = true ∧ touched 0xF0000000 (fullLine 0xFFFFFFC1) = [65535] ∧
    touched 0xF0000000 (fullLine 0xF0000FC1) = [0, 1] := by decide +kernel

theorem witness_MaskNamesTheBytesWritten :
    (isWriteTxn (beat 0x20100038 0x80) = true ∧ misalignedLineWrite (beat 0x20100038 0x80) = false ∧
      (63 : Nat) = 8 * ((beat 0x20100038 0x80).addr.extractLsb' 3 3).toNat + 7 ∧ (0x80 : BitVec 8).getLsbD 7 = true ∧
      (writeMask (beat 0x20100038 0x80)).getLsbD 0 = false) ∧
    isWriteTxn (fullLine 0x20100040) = true ∧ misalignedLineWrite (fullLine 0x20100040) = false := by decide +kernel

theorem witness_PassThroughReachesMemory :
    (alone.Runs ∧ alone.role = .standalone ∧ alone.hostReady = true) ∧
    (primary.Runs ∧ primary.touchedMirrored ⟨0x20100000, .readLine⟩ = [] ∧ primary.hostReady = true) ∧
    (let s := { primary with host := waiting (fullLine 0x20103000) true }
     s.touchedMirrored (fullLine 0x20103000) = [] ∧ s.host.txn = some (fullLine 0x20103000) ∧ s.hostGrantable = true) ∧
    (let s := { replica with host := waiting ⟨0x60100000, .readLine⟩ false }
     s.touchedMirrored ⟨0x60100000, .readLine⟩ = [] ∧ s.host.txn = some ⟨0x60100000, .readLine⟩ ∧ s.hostGrantable = true) := by
  decide +kernel

theorem witness_RefusedWritesAnswerFault :
    (primary.touchedMirrored (fullLine 0x20102FC1) = [258] ∧ misalignedLineWrite (fullLine 0x20102FC1) = true ∧
      primary.role = .primary ∧ primary.hostReady = true) ∧
    (replica.touchedMirrored (beat 0x60100000 1) = [256] ∧ replica.role = .replica ∧ replica.hostReady = true) ∧
    (let s := { replica with host := waiting (beat 0x60100000 1) false }
     s.touchedMirrored (beat 0x60100000 1) ≠ [] ∧ s.host.txn = some (beat 0x60100000 1) ∧ s.hostGrantable = true) := by decide +kernel

/-- No journal needed, with the link down and for a dirty block; the last free slot, without and with a request of the sweep; and a full
journal with a merge, with policy MARK and with policy STALL. -/
theorem witness_AdmissionTakesTheFirstOutcome :
    (training.Runs ∧ training.hostReady = true ∧ training.role = .primary ∧ misalignedLineWrite (beat 0x20100000 1) = false ∧
      training.touchedMirrored (beat 0x20100000 1) = 256 :: [] ∧ training.link.state ≠ .up) ∧
    (let s := { primary with map := { flags := [256], count := 1, cursor := 0 } }
     s.hostReady = true ∧ s.map.flags.contains 256 = true ∧ s.sweep.copy = none) ∧
    (let s := holding primary (List.replicate 255 (lineRec 1 .queued none false))
     s.hostReady = true ∧ s.link.state = .up ∧ s.map.flags = [] ∧ s.journal.records.length < 256) ∧
    (let s := copying 0 false
     s.hostReady = true ∧ s.map.flags = [] ∧ s.sweep.request = true) ∧
    (let s := holding primary (List.replicate 256 (lineRec 16384 .queued none false))
     s.hostReady = true ∧ 256 ≤ s.journal.records.length ∧ s.journal.tailMerges (lineOf s.params.windowBase 0x20100000) = true) ∧
    (let s := holding primary (List.replicate 256 (lineRec 1 .queued none false))
     256 ≤ s.journal.records.length ∧ s.journal.tailMerges (lineOf s.params.windowBase 0x20101000) = false ∧
     s.touchedMirrored (beat 0x20101000 1) = 257 :: [] ∧ blockPolicy s.regions 257 = .mark ∧ blockPolicy s.regions 256 = .stall) := by
  decide +kernel

theorem witness_InitAbandonsByState :
    (primary.Runs ∧ primary.host.state = .idle) ∧
    ({ primary.host with state := .spaceWait, timer := some 1 } : HostPort).state = .spaceWait ∧
    (waiting (fullLine 0x20100000) true).state = .portWait ∧
    (let s := { primary with host := { HostPort.idle with state := .inMemory, txn := some (fullLine 0x20100000), bound := true },
                             mem := inMemory .host (fullLine 0x20100000) }
     s.Runs ∧ s.host.state = .inMemory ∧ s.mem.use = some ⟨.host, fullLine 0x20100000, 12⟩) ∧
    (busyPrimary.Runs ∧ busyPrimary.host.state = .syncHold) := by decide +kernel

/-- The five paths of Table 1.6, and a misaligned LINE write over two mirrored blocks. -/
theorem witness_GrantedWriteTakesItsPath :
    let t := beat 0x20100040 0x0F
    let s := { primary with host := waiting t true }
    (s.Runs ∧ s.role = .primary ∧ s.host.txn = some t ∧ s.hostGrantable = true ∧ misalignedLineWrite t = false ∧
      s.touchedMirrored t = 256 :: []) ∧
    (let d := { s with map := { flags := [256], count := 1, cursor := 0 } }
     d.hostGrantable = true ∧ d.map.flags.contains 256 = true ∧ d.sweep.copy = none) ∧
    (let d := { training with host := waiting t false, map := DirtyMap.clean }
     d.hostGrantable = true ∧ d.map.flags = [] ∧ d.link.state ≠ .up) ∧
    (let d := holding s [lineRec 16385 .queued none false]
     d.hostGrantable = true ∧ d.link.state = .up ∧ d.journal.tailMerges (lineOf d.params.windowBase t.addr) = true) ∧
    (s.map.flags = [] ∧ s.link.state = .up ∧ s.journal.tailMerges (lineOf s.params.windowBase t.addr) = false ∧ s.host.claim = true) ∧
    (let d := { primary with host := waiting t false }
     d.hostGrantable = true ∧ d.journal.tailMerges (lineOf d.params.windowBase t.addr) = false ∧ d.host.claim = false) ∧
    (let m := fullLine 0x20100FC1
     let d := { primary with host := waiting m false }
     d.hostGrantable = true ∧ misalignedLineWrite m = true ∧ d.touchedMirrored m = 256 :: [257]) := by
  decide +kernel

/-- A host transaction in memory, for a given owner and binding. -/
def inFlight (o : PortOwner) (bound : Bool) : State :=
  { primary with host := { HostPort.idle with state := .inMemory, txn := some (fullLine 0x20100000), bound := bound },
                 mem := inMemory o (fullLine 0x20100000) }

theorem witness_MemoryCompletionAnswersOrHolds :
    ((inFlight .host true).Runs ∧ (inFlight .host true).mem.use = some ⟨.host, fullLine 0x20100000, 12⟩ ∧
      (inFlight .host true).host.bound = true) ∧
    (inFlight .host false).host.bound = false ∧
    (inFlight .abandonedHost false).mem.use = some ⟨.abandonedHost, fullLine 0x20100000, 12⟩ := by decide +kernel

theorem witness_MemoryTimeoutAnswersFault :
    ((inFlight .host true).Runs ∧ (inFlight .host true).mem.use = some ⟨.host, fullLine 0x20100000, 12⟩ ∧
      (inFlight .host true).role = .primary ∧ (inFlight .host true).touchedMirrored (fullLine 0x20100000) ≠ []) ∧
    (let s := { alone with host := (inFlight .host false).host, mem := inMemory .host (fullLine 0x20100000) }
     s.mem.use = some ⟨.host, fullLine 0x20100000, 12⟩ ∧ s.role ≠ .primary) ∧
    (inFlight .abandonedHost false).mem.use = some ⟨.abandonedHost, fullLine 0x20100000, 12⟩ := by decide +kernel

theorem witness_HoldLimitExpiryEndsTheWait :
    (let s := { primary with host := { HostPort.idle with
        state := .spaceWait, txn := some (beat 0x20100040 1), noted := some ⟨256, .sync, .stall⟩, timer := some 250 } }
     s.Runs ∧ s.host.state = .spaceWait ∧ s.host.noted = some ⟨256, .sync, .stall⟩ ∧ s.role = .primary) ∧
    (primary.Runs ∧ primary.host.state ≠ .spaceWait ∧ primary.host.state ≠ .syncHold) ∧ busyPrimary.host.state = .syncHold := by
  decide +kernel

theorem mapLaw_scanning : MapLaw (scanning [256, 257, 258] 259) := by
  refine ⟨by decide, by decide, ?_, by decide, ?_, ?_, by decide, by decide⟩
  · intro b hb
    have h : b = 256 ∨ b = 257 ∨ b = 258 := by simpa [scanning, busyTx] using hb
    rcases h with h | h | h <;> subst h <;> decide +kernel
  · intro b hb
    simp [scanning, busyTx, primary, alone, State.reset, Journal.powerOn] at hb
  · intro c hc
    simp [scanning, busyTx, primary, alone, State.reset, Sweep.powerOn] at hc

/-- The wrap of Table 11.6; with 223 records 33 slots are free, above JOURNAL_RESERVE 32, and with 224 no more than 32. -/
theorem witness_SelectionTakesTheNextDirtyBlock :
    ((scanning [256, 257, 258] 259).Runs ∧ (scanning [256, 257, 258] 259).sweep.state = .scanning ∧ MapLaw (scanning [256, 257, 258] 259) ∧
      256 ∈ (scanning [256, 257, 258] 259).map.flags ∧
      (∀ c ∈ (scanning [256, 257, 258] 259).map.flags,
        (256 - (scanning [256, 257, 258] 259).map.cursor).toNat ≤ (c - (scanning [256, 257, 258] 259).map.cursor).toNat) ∧
      (scanning [256, 257, 258] 259).host.state ≠ .spaceWait ∧ (scanning [256, 257, 258] 259).link.tx.isSome = true) ∧
    (let s := holding (scanning [256, 257, 258] 259) (List.replicate 224 (lineRec 16448 .queued none false))
     s.freeSlots ≤ s.params.journalReserve) ∧
    (let s := holding (scanning [256, 257, 258] 259) (List.replicate 223 (lineRec 16448 .queued none false))
     s.params.journalReserve < s.freeSlots) := by
  refine ⟨⟨by decide, by decide, mapLaw_scanning, by simp [scanning, busyTx], ?_, by decide, by decide⟩, by decide +kernel,
    by decide +kernel⟩
  intro c hc
  have h : c = 256 ∨ c = 257 ∨ c = 258 := by simpa [scanning, busyTx] using hc
  rcases h with h | h | h <;> subst h <;> decide +kernel

theorem witness_SweepGrantAppendsThePlaceholder :
    (copying 63 false).Runs ∧ (copying 63 false).sweep.copy = some ⟨256, 63⟩ ∧ (copying 63 false).sweepGrantable = true ∧
    CapacityLaw (copying 63 false) := by decide +kernel

/-- Lines 62 and 63, and a pending stop. -/
theorem witness_SweepReadCompletionAdvances :
    ((copying 62 true).Runs ∧ (copying 62 true).role = .primary ∧ (copying 62 true).sweep.state = .copying ∧
      (copying 62 true).sweep.copy = some ⟨256, 62⟩ ∧ (copying 62 true).sweepReadInMemory true = true ∧
      (copying 62 true).sweep.stopPending = false) ∧
    ((copying 63 true).sweep.copy = some ⟨256, 63⟩ ∧ (copying 63 true).sweepReadInMemory true = true) ∧
    (let s := { copying 63 true with sweep := { (copying 63 true).sweep with stopPending := true } }
     s.sweepReadInMemory true = true ∧ s.sweep.stopPending = true) := by decide +kernel

theorem witness_SweepReadTimeoutGivesTheBlockBack :
    (copying 0 true).Runs ∧ (copying 0 true).role = .primary ∧ (copying 0 true).sweep.state = .copying ∧
    (copying 0 true).sweep.copy = some ⟨256, 0⟩ ∧ (copying 0 true).sweepReadInMemory true = true := by decide +kernel

theorem witness_EndsWithoutATransactionAreDiscarded : orphaned.Runs ∧ orphaned.sweepReadInMemory false = true := by decide +kernel

/-- A primary at the end of a frame with the due flags given. -/
def ending (d : Due) : State := { busyTx primary with link := { (busyTx primary).link with due := d } }

/-- One state for each frame type, and for the data frames a resend and a first send at the edge of the window. -/
theorem witness_TransmitterBeginsTheFirstDueFrame :
    ((ending Due.nothing).Runs ∧ (ending Due.nothing).link.tx.isSome = true) ∧
    (ending { Due.nothing with halt := some .promoted }).link.due.halt = some .promoted ∧
    (ending { Due.nothing with ready := true }).link.due.halt = none ∧
    (let s := ending { Due.nothing with start := true }
     s.link.due.ready = false ∧ s.link.due.start = true ∧ s.link.phase = .start .full) ∧
    (let s := ending { Due.nothing with hello := true }
     s.link.due.start = false ∧ s.link.due.hello = true ∧ s.role = .primary ∧ { s with role := .replica }.role = .replica) ∧
    ((ending { Due.nothing with nak := true }).link.due.hello = false ∧ (ending { Due.nothing with ack := true }).link.due.nak = false) ∧
    (let r := lineRec 16448 .resend (some 255) false
     let s := holding (ending Due.nothing) ([markRec 1 .sent (some 254)] ++ r :: [])
     s.role = .primary ∧ s.link.state = .up ∧ s.journal.records = [markRec 1 .sent (some 254)] ++ r :: [] ∧
     (∀ p ∈ [markRec 1 .sent (some 254)], p.state ≠ .resend) ∧ r.state = .resend ∧ r.seq = some 255) ∧
    (let pre := List.replicate 15 (markRec 1 .sent (some 3))
     let r := markRec 2 .queued none
     let s := holding (ending Due.nothing) (pre ++ r :: [])
     s.journal.records = pre ++ r :: [] ∧ (∀ p ∈ pre, p.state = .sent) ∧ r.state = .queued ∧ pre.length < s.params.windowSize) ∧
    ((ending { Due.nothing with idle := true }).dataFrame.isNone = true ∧ (ending Due.nothing).dataFrame.isNone = true) ∧
    (let v := ending Due.nothing
     v.link.tx = some .idle ∧ v.wire.fillDue = 0 ∧ v.wire.sent + 1 < LinkFrame.idle.symbols.length) ∧
    (let v := { ending Due.nothing with wire := { Wire.powerOn with fillDue := 1 } }
     v.Runs ∧ v.link.tx = some .idle ∧ 1 ≤ v.wire.fillDue) ∧
    (let v := { ending Due.nothing with wire := { Wire.powerOn with sent := 6 } }
     v.link.tx = some .idle ∧ v.wire.fillDue = 0 ∧ v.wire.sent + 1 = LinkFrame.idle.symbols.length) ∧ primary.link.tx = none := by
  decide +kernel

theorem witness_TimerExpiryMakesItsFrameDue :
    (training.Runs ∧ training.link.repeatRun = true ∧ training.link.phase = .hello) ∧
    (let s := { training with link := trainingLink (.start .full) }
     s.link.repeatRun = true ∧ s.role = .primary ∧ s.link.phase = .start .full) ∧ primary.link.keepaliveRun = true := by decide +kernel

/-- A primary with the sweep copying and a write held; one in each other state of the sweep and the host port; and a replica. -/
theorem witness_SilenceEndsTheSession :
    (busyPrimary.Runs ∧ busyPrimary.link.silence = some 5 ∧ busyPrimary.link.state = .up ∧ busyPrimary.role = .primary ∧
      busyPrimary.pair.results.length + busyPrimary.pair.outstanding.length ≤ 8 ∧ busyPrimary.sweep.state = .copying ∧
      busyPrimary.host.state = .syncHold) ∧
    (let s := { inFlight .host true with sweep := { Sweep.powerOn with state := .stopped } }
     s.link.silence = some 5 ∧ s.host.state = .inMemory ∧ s.sweep.state = .stopped) ∧
    (primary.link.silence = some 5 ∧ primary.host.state = .idle ∧ primary.sweep.state = .idle) ∧
    (let s := { primary with host := { HostPort.idle with
        state := .spaceWait, txn := some (beat 0x20100040 1), noted := some ⟨256, .sync, .stall⟩, timer := some 250 } }
     s.link.silence = some 5 ∧ s.host.noted = some ⟨256, .sync, .stall⟩ ∧ s.host.txn = some (beat 0x20100040 1)) ∧
    (lagging.Runs ∧ lagging.link.silence = some 5 ∧ lagging.link.state = .up ∧ lagging.role ≠ .primary) := by decide +kernel

/-- RETRY_LIMIT is 5: a fifth and a sixth expiry. -/
theorem witness_RetransmitExpiryRewindsOrHalts :
    (let s := { wrapped with sender := { wrapped.sender with retries := 4 } }
     s.Runs ∧ s.sender.timer = some 400 ∧ s.sender.retries + 1 ≤ s.params.retryLimit) ∧
    (let s := { wrapped with sender := { wrapped.sender with retries := 5 } }
     s.sender.timer = some 400 ∧ s.params.retryLimit < s.sender.retries + 1 ∧ s.role = .primary ∧ s.link.state = .up) := by
  decide +kernel

theorem witness_DiscardedFramesAreCounted :
    (primary.Runs ∧ primary.link.state ≠ .off ∧ checkFrame [0x20] = none ∧ alone.link.state = .off) ∧
    (primary.wire.gathered = none ∧ primary.wire.rxDisparity = .negative) ∧
    ({ Wire.powerOn with gathered := some [0x20] } : Wire).gathered = some [0x20] ∧
    (decodeSymbol .negative 0b1101101000 = some .startOfFrame ∧ decodeSymbol .negative 0b1011101000 = some .endOfFrame ∧
      decodeSymbol .negative 0b0011111010 = some .fill ∧ decodeSymbol .negative 0b1010101010 = some (.data 0xB5) ∧
      decodeSymbol .negative 0b1100000101 = none) := by decide +kernel

/-- A HELLO of pair 5. -/
def greeting (r : HelloRole) (session : SessionNo) (continuity queueEmpty : Bool) : Hello :=
  { role := r, pairId := 5, session := session, continuity := continuity, queueEmpty := queueEmpty }

theorem witness_HelloDecidesTheSession :
    (let h := greeting .replica 0 false true
     training.Runs ∧ checkFrame (LinkFrame.hello h).encode = some (.hello h) ∧ training.link.state = .training ∧
     training.role = .primary ∧ h.role = .replica ∧ h.pairId = training.params.pairId ∧ h.queueEmpty = true ∧
     training.link.phase = .hello) ∧
    (trainingLink (.start .full)).phase = .start .full ∧ (trainingLink (.start .incremental)).phase = .start .incremental ∧
    (let h := greeting .replica 0 false false
     checkFrame (LinkFrame.hello h).encode = some (.hello h) ∧ h.queueEmpty = false) ∧
    (let h := greeting .primary 0 false true
     let s := { replica with link := trainingLink .hello }
     checkFrame (LinkFrame.hello h).encode = some (.hello h) ∧ s.Runs ∧ s.role = .replica ∧ s.link.state = .training ∧
     h.pairId = s.params.pairId) ∧
    (let h := greeting .replica 1 true true
     let c := greeting .primary 0 false true
     checkFrame (LinkFrame.hello h).encode = some (.hello h) ∧ primary.link.state = .up ∧ primary.role = .primary ∧
     h.pairId = primary.params.pairId ∧ h.session = primary.link.lastSession ∧ primary.link.lastSession ≠ 0 ∧
     checkFrame (LinkFrame.hello c).encode = some (.hello c) ∧ c.role = .primary ∧ replica.link.state = .up ∧
     replica.role = .replica ∧ c.pairId = replica.params.pairId) ∧ (trainingLink .hello).state ≠ .halted ∧
    ({ primary with link := { Link.powerOn with state := .halted } }).link.state = .halted := by decide +kernel

theorem witness_StartOpensTheReplicasSession :
    (let s := { replica with link := trainingLink .hello }
     s.Runs ∧ s.role = .replica ∧ checkFrame (LinkFrame.start 1 .full).encode = some (.start 1 .full) ∧ s.link.state = .training ∧
     s.receiver.queue = []) ∧
    (let s := { lagging with link := trainingLink .hello }
     s.link.state = .training ∧ s.receiver.queue ≠ []) ∧
    (replica.link.state = .up ∧ replica.link.lastServed = 1 ∧ replica.receiver.queue = [] ∧ replica.link.continuity = true) ∧
    checkFrame (LinkFrame.start 2 .incremental).encode = some (.start 2 .incremental) ∧ (2 : SessionNo) = successor 1 := by
  decide +kernel

theorem witness_ReadyIdleAndHaltFrames :
    (let s := { training with link := { trainingLink (.start .full) with lastSession := 1 } }
     s.Runs ∧ checkFrame (LinkFrame.ready 1).encode = some (.ready 1) ∧ s.role = .primary ∧ s.link.state = .training ∧
     s.link.phase = .start .full ∧ 1 = s.link.lastSession ∧ s.journal.records = []) ∧
    (primary.Runs ∧ primary.link.state = .up ∧ checkFrame LinkFrame.idle.encode = some .idle ∧
      checkFrame (LinkFrame.halt .promoted).encode = some (.halt .promoted) ∧ busyPrimary.link.tx.isSome = true) ∧
    (training.link.state = .training ∧ replica.role = .replica) := by decide +kernel

/-- Lag 0 with the engine busy, with it IDLE and with a full queue; lags 1, 32 and 33. -/
theorem witness_DataFrameIsPlacedByLag :
    (lagging.Runs ∧ lagging.role = .replica ∧ lagging.link.state = .up ∧
      checkFrame (LinkFrame.data 20 (.marker 9)).encode = some (.data 20 (.marker 9)) ∧ (lagging.receiver.expected - 20).toNat = 0 ∧
      lagging.receiver.queue.length < 32 ∧ lagging.apply.state ≠ .idle) ∧
    (replica.receiver.queue = [] ∧ replica.apply.state = .idle ∧
      checkFrame (LinkFrame.data 0 (.image 16384 zeros)).encode = some (.data 0 (.image 16384 zeros)) ∧
      recordTxns replica.params.windowBase (.image 16384 zeros) ≠ []) ∧
    32 ≤ (List.replicate 32 (⟨1, .marker 1⟩ : QueueRecord)).length ∧
    ((lagging.receiver.expected - 19).toNat = 1 ∧ (lagging.receiver.expected - 244).toNat = 32 ∧
      (lagging.receiver.expected - 243).toNat = 33) := by decide +kernel

/-- A primary with a write in SPACE_WAIT and the dirty blocks given. -/
def spaceWaiting (flags : List Block) : State :=
  { wrapped with
    map := { flags := flags, count := flags.length, cursor := 0 },
    host := { HostPort.idle with
      state := .spaceWait, txn := some (beat 0x20100040 1), noted := some ⟨256, .sync, .stall⟩, timer := some 250 } }

/-- Table 5.3: distances 0, 3 and 4 with four records outstanding; a carrying record under a hold and in memory; and a write in
SPACE_WAIT, its block clean and dirty. -/
theorem witness_AckRemovesThroughItsNumber :
    (wrapped.Runs ∧ wrapped.role = .primary ∧ wrapped.link.state = .up ∧ checkFrame (LinkFrame.ack 1).encode = some (.ack 1) ∧
      (1 - wrapped.oldestNumber).toNat = 3 ∧ (254 - wrapped.oldestNumber).toNat = 0 ∧ wrapped.journal.outstanding = 4 ∧
      JournalLaw wrapped ∧ MarkerLaw wrapped ∧ (2 - wrapped.oldestNumber).toNat = 4) ∧
    (JournalLaw busyPrimary ∧ MarkerLaw busyPrimary ∧ busyPrimary.host.state = .syncHold ∧ busyPrimary.journal.outstanding = 2 ∧
      (7 - busyPrimary.oldestNumber).toNat = 0 ∧ ∃ r ∈ busyPrimary.journal.records.take 1, r.waiter = true ∧ r.tag? = none) ∧
    (let s := { busyPrimary with host := (inFlight .host true).host }
     s.host.state = .inMemory ∧ JournalLaw s ∧ MarkerLaw s) ∧
    (JournalLaw (spaceWaiting []) ∧ MarkerLaw (spaceWaiting []) ∧ (spaceWaiting []).host.state = .spaceWait ∧
      (spaceWaiting []).host.noted = some ⟨256, .sync, .stall⟩ ∧ (spaceWaiting []).host.txn = some (beat 0x20100040 1) ∧
      (spaceWaiting [256]).map.flags = [256] ∧ (spaceWaiting []).map.flags = [] ∧ (spaceWaiting [256]).sweep.copy = none) := by
  refine ⟨by decide +kernel, ⟨by decide +kernel, by decide +kernel, by decide +kernel, by decide +kernel, by decide +kernel,
    lineRec 16384 .sent (some 7) true, ?_, rfl, rfl⟩, by decide +kernel, by decide +kernel⟩
  simp [busyPrimary, holding, busyTx]

theorem witness_NakRemovesAndRewinds :
    wrapped.Runs ∧ wrapped.role = .primary ∧ wrapped.link.state = .up ∧ checkFrame (LinkFrame.nak 2).encode = some (.nak 2) ∧
    (2 - wrapped.oldestNumber).toNat = wrapped.journal.outstanding ∧ JournalLaw wrapped ∧
    wrapped.journal.outstanding < (3 - wrapped.oldestNumber).toNat ∧
    ((spaceWaiting []).host.state = .spaceWait ∧ JournalLaw (spaceWaiting [])) := by decide +kernel

/-- A grant; a first of two transactions; a last one that empties the queue, in a promotion too; and a last one with a record
behind, and with two markers between. -/
theorem witness_ApplyEngineWritesItsRecords :
    (lagging.Runs ∧ lagging.apply.todo = fullLine 0x60000040 :: [] ∧ lagging.applyGrantable = true) ∧
    (let s := { busyReplica with apply := { busyReplica.apply with todo := [beat 0x60000040 1, beat 0x60000048 1] } }
     s.applyInMemory = true ∧ s.apply.state = .applying ∧ s.apply.todo = beat 0x60000040 1 :: beat 0x60000048 1 :: []) ∧
    (busyReplica.apply.todo = [fullLine 0x60000040] ∧ busyReplica.receiver.queue = ⟨18, .image 1 zeros⟩ :: [⟨19, .image 2 zeros⟩] ∧
      recordTxns busyReplica.params.windowBase (.image 2 zeros) ≠ []) ∧
    (let s := { busyReplica with receiver := { busyReplica.receiver with queue := [⟨19, .image 2 zeros⟩] } }
     s.applyInMemory = true ∧ s.receiver.queue = ⟨19, .image 2 zeros⟩ :: [] ∧ s.role = .promoting) ∧
    (let marks : List QueueRecord := [⟨19, .marker 8⟩, ⟨20, .marker 9⟩]
     let first : QueueRecord := ⟨18, .image 1 zeros⟩
     let rest : List QueueRecord := [⟨21, .image 2 zeros⟩]
     let s := { busyReplica with receiver := { busyReplica.receiver with queue := first :: marks ++ rest } }
     s.apply.todo = [fullLine 0x60000040] ∧ s.receiver.queue = first :: marks ++ rest ∧
     marks.map QueueRecord.payload = [.marker 8, .marker 9]) := by decide +kernel

theorem witness_ApplyTimeoutFreezesTheQueue :
    (let s := { lagging with mem := inMemory .apply (fullLine 0x60000040) }
     s.Runs ∧ s.applyInMemory = true ∧ s.apply.state = .applying ∧ s.role = .replica ∧ s.link.state = .up) ∧
    (let s := { lagging with mem := inMemory .apply (fullLine 0x60000040), link := { Link.powerOn with state := .halted, tx := some .idle } }
     s.applyInMemory = true ∧ s.link.state = .halted ∧ s.link.tx.isSome = true) ∧
    (busyReplica.applyInMemory = true ∧ busyReplica.role = .promoting ∧ busyReplica.link.state = .off) := by decide +kernel

/-- A part whose port has kept a command byte and argument bytes of the frame in progress, the last of them just arrived. -/
def keeping (phase : MgmtPhase) (code : Byte) (args : List Byte) (s : State) : State :=
  { s with mgmt := { Mgmt.selected with phase := phase, command := some code, args := args } }

/-- The taking of a command, a witness for every statement about a management command: as a whole frame in each role, and from the bytes
kept, with no argument, with two and with eight; and not another command, nor one after a taking. -/
theorem witness_Takes :
    (alone.Takes 0x01 [] ∧ primary.Takes 0x28 [] ∧ replica.Takes 0x29 [] ∧ busyPrimary.Takes 0x3F [] ∧ busyReplica.Takes 0x2A []) ∧
    (keeping .command 0x01 [] primary).Takes 0x01 [] ∧ (keeping .arguments 0x23 [0x01, 0xF4] primary).Takes 0x23 (bytes16 500) ∧
    (let args := [0x0F, 1, 2, 1] ++ bytes16 0xABCD ++ bytes16 0xFF00
     (keeping .arguments 0x11 args alone).Takes 0x11 args) ∧
    ¬ (keeping .command 0x01 [] primary).Takes 0x30 [] ∧ ¬ (after .status primary).Takes 0x01 [] := by decide +kernel

theorem witness_StatusReportsTheSnapshot : alone.Takes 0x01 [] ∧ PairLaw alone ∧ PairLaw primary ∧ primary.role = .primary := by decide +kernel

/-- Index 15 and 16, and each wrong argument at the first value past its range. -/
theorem witness_RegionCommandsReadAndWriteEntries :
    alone.Takes 0x10 [15] ∧ alone.Takes 0x10 [16] ∧ alone.Takes 0x11 ([15, 1, 2, 1] ++ bytes16 0xABCD ++ bytes16 0xFF00) ∧
    15 < (16 : Byte).toNat ∧ ¬ 15 < (15 : Byte).toNat ∧ 1 < (2 : Byte).toNat ∧ 2 < (3 : Byte).toNat ∧
    primary.role ≠ .standalone ∧ alone.role = .standalone := by decide +kernel

/-- Identifiers 13 and 14; both water marks at equality; a base with a low bit set; and AUTO_REPAIR. -/
theorem witness_ParameterCommandsReadAndWrite :
    primary.Takes 0x18 [13] ∧ primary.Takes 0x19 (13 :: bytes32 1) ∧ Param.ofId 13 = some .autoRepair ∧ 13 < (14 : Byte).toNat ∧
    (Param.inRange .highWater 160 = true ∧ (160 : BitVec 32).toNat ≤ primary.params.lowWater) ∧
    (Param.inRange .lowWater 224 = true ∧ primary.params.highWater ≤ (224 : BitVec 32).toNat) ∧
    Param.inRange .windowBase 0x10000001 = false ∧ (Param.inRange .windowSize 32 = true ∧ primary.link.state = .up) ∧
    (Param.inRange .highWater 161 = true ∧ primary.params.lowWater < (161 : BitVec 32).toNat) ∧
    (Param.inRange .retryLimit 15 = true ∧ Param.inRange .autoRepair 1 = true ∧ Param.inRange .autoRepair 0 = true) := by decide +kernel

theorem witness_SetRoleFollowsItsTable :
    (alone.Takes 0x20 [3] ∧ alone.role = .standalone ∧ (∀ t ∈ alone.hostUse, alone.touchedMirrored t = []) ∧ 2 < (3 : Byte).toNat) ∧
    (let s := { alone with mem := inMemory .abandonedHost (fullLine 0x20100000) }
     s.Takes 0x20 [2] ∧ s.hostUse = some (fullLine 0x20100000) ∧ s.touchedMirrored (fullLine 0x20100000) ≠ []) ∧
    (busyPrimary.Takes 0x20 [0] ∧ busyPrimary.role = .primary ∧ busyPrimary.host.state = .syncHold ∧ busyPrimary.link.state = .up ∧
      busyPrimary.mem.use = some ⟨.sweep, ⟨0x20101000, .readLine⟩, 12⟩ ∧ busyPrimary.link.tx.isSome = true) ∧
    (training.role = .primary ∧ training.link.state ≠ .up ∧ primary.link.tx = none ∧ primary.mem.use = none) ∧
    (inFlight .host true).host.state = .inMemory ∧ (waiting (fullLine 0x20100000) true).state = .portWait ∧
    (replica.role = .replica ∧ busyReplica.role = .promoting) := by decide +kernel

theorem witness_RepairCommandsActByTheSweepsState :
    (primary.Takes 0x21 [] ∧ primary.Takes 0x22 [] ∧ primary.role = .primary ∧ primary.link.state = .up ∧ primary.sweep.state = .idle) ∧
    (scanning [256] 0).sweep.state = .scanning ∧ ((copying 0 true).sweep.state = .copying ∧ (copying 0 true).sweep.request = false) ∧
    ((copying 0 false).sweep.state = .copying ∧ (copying 0 false).sweep.request = true ∧ (copying 0 false).sweep.copy = some ⟨256, 0⟩) ∧
    (let w : Sweep := { Sweep.powerOn with state := .waiting, copy := some ⟨256, 0⟩ }
     w.state = .waiting ∧ w.request = false ∧ w.copy = some ⟨256, 0⟩) ∧
    (replica.Takes 0x22 [] ∧ replica.role ≠ .primary ∧ training.Takes 0x21 [] ∧ training.link.state ≠ .up) := by decide +kernel

/-- Seven and eight markers, and no free slot. -/
theorem witness_MarkerCommandsPlaceAndRead :
    (primary.Takes 0x23 (bytes16 500) ∧ primary.Takes 0x24 [] ∧ primary.role = .primary ∧ primary.pair.state = .mirrored ∧ 1 ≤ primary.freeSlots) ∧
    ((List.replicate 7 (1 : Tag)).length < 8 ∧ 8 ≤ (List.replicate 8 (1 : Tag)).length) ∧
    (holding primary (List.replicate 256 (markRec 1 .queued none))).freeSlots = 0 ∧
    (replica.role ≠ .primary ∧ training.role = .primary ∧ training.pair.state ≠ .mirrored) := by decide +kernel

theorem witness_RelinkPromoteAndClearFault :
    (let s := { primary with link := { Link.powerOn with state := .halted, due := { Due.nothing with halt := some .promoted } } }
     s.Takes 0x28 [] ∧ s.link.state = .halted ∧ s.link.tx = none ∧ s.link.due.halt = some .promoted) ∧
    (primary.link.state ≠ .halted ∧ primary.role ≠ .replica ∧ primary.apply.state ≠ .fault) ∧
    (lagging.Takes 0x29 [] ∧ lagging.role = .replica ∧ lagging.receiver.queue ≠ [] ∧ lagging.apply.state ≠ .fault ∧ lagging.link.state = .up) ∧
    (replica.role = .replica ∧ replica.receiver.queue = [] ∧ replica.link.tx = none) ∧
    (let s := { lagging with apply := { state := .fault, todo := [], request := false } }
     s.Takes 0x2A [] ∧ s.apply.state = .fault) := by decide +kernel

theorem witness_AlertCommandsMoveCausesAndLine :
    alarmed.Takes 0x30 [] ∧ alarmed.Takes 0x31 (bytes16 0x8000) ∧ alarmed.Takes 0x32 (bytes16 0x7FFF) ∧
    (0x8000 : BitVec 16).getLsbD 15 = true ∧ (0x7FFF : BitVec 16).getLsbD 15 = false := by decide +kernel

/-- The widest selection, 0 and 12, the last counter, 11 and 1, and one past each. -/
theorem witness_ReadCountersReturnsAndClears :
    primary.Takes 0x38 [0, 12, 1] ∧ ((0 : Byte).toNat + (12 : Byte).toNat ≤ 12 ∧ (11 : Byte).toNat ≤ 11 ∧ (11 : Byte).toNat + (1 : Byte).toNat ≤ 12) ∧
    (12 < (1 : Byte).toNat + (12 : Byte).toNat ∧ 11 < (12 : Byte).toNat) := by decide +kernel

theorem witness_ResetPartIsASoftReset :
    (busyPrimary.Takes 0x3F [] ∧ busyPrimary.host.state = .syncHold ∧ busyPrimary.mem.use = some ⟨.sweep, ⟨0x20101000, .readLine⟩, 12⟩) ∧
    ((inFlight .host true).Takes 0x3F [] ∧ (inFlight .host true).host.state = .inMemory) ∧
    (primary.host.state = .idle ∧ primary.mem.use = none ∧ busyReplica.host.state = .portWait) ∧
    ({ HostPort.idle with state := .spaceWait } : HostPort).state = .spaceWait := by decide +kernel

/-- Byte 0x02 names no command; the phases a frame can be found in; and bits and bytes of a SET ROLE and of a STATUS frame. -/
theorem witness_ManagementFramesBeginAndEnd :
    (primary.Runs ∧ commandArgs 0x02 = none ∧ primary.mgmt.phase = .deselected ∧ primary.mgmt.awaits 0x02 [] = true ∧
      (after .status primary).mgmt.phase = .turnaround ∧ (after .status primary).mgmt.awaits 0x02 [] = false ∧
      (after (.resetRelease true) { State.reset with inReset := true }).mgmt.phase = .waitingForRise) ∧
    (managementCommand 0x01 [] = some .status ∧ managementCommand 0x20 [1] = some (.setRole 1)) ∧
    (let m : Mgmt := { Mgmt.selected with bits := [false, false, true, false, false, false, false] }
     m.phase = .command ∧ m.byteOut = some 0xFF ∧ m.bits.length = 7 ∧ byteOfBits (m.bits ++ [false]) = 0x20 ∧
     commandArgs 0x20 = some 1 ∧ Mgmt.selected.bits.length < 7) ∧
    (let m : Mgmt := { (keeping .arguments 0x19 [0x0D, 0, 0] primary).mgmt with bits := List.replicate 7 false }
     m.phase = .arguments ∧ m.byteOut = some 0xFF ∧ m.command = some 0x19 ∧ commandArgs 0x19 = some 5 ∧ m.args.length + 1 < 5 ∧
     managementCommand 0x19 ([0x0D, 0, 0, 0] ++ [byteOfBits (List.replicate 7 false ++ [true])]) = some (.writeParam 0x0D 1)) ∧
    (let m : Mgmt := { (after .status primary).mgmt with phase := .response, passed := 15, bits := List.replicate 7 true }
     m.byteOut = some 0x00 ∧ m.bits.length = 7) := by decide +kernel

/-- Pulses of 999 and 1,000 ns, and a held part. -/
theorem witness_PowerOnResetInWholeOrNotAtAll :
    (1000 ≤ 1000 ∧ 999 < 1000) ∧ ({ State.reset with inReset := true } : State).inReset = true ∧
    ((∀ cause, Instr.init ≠ .powerOnReset cause) ∧ ∀ m, Instr.init ≠ .resetRelease m) := by
  refine ⟨by decide, rfl, ?_, ?_⟩ <;> intro x h <;> cases h

end Sys2Proof.Tests
end

/-! PROOF. The grant of the memory port to the repair sweep (R62): the address of the line it reads, the slot its placeholder finds, and
the two outcomes of SWEEP_GRANT. -/

namespace Sys2Proof.Machine

open Sys2Proof

/-- R57: line k of block b has line index b × 64 + k. -/
theorem Copy.toNat_lineIndex (c : Copy) : c.lineIndex.toNat = c.block.toNat * 64 + c.line.toNat := by
  have hline : c.line.toNat < 2 ^ 6 := c.line.isLt
  rw [Copy.lineIndex, BitVec.toNat_append, ← Nat.shiftLeft_add_eq_or_of_lt hline, Nat.shiftLeft_eq]

/-- R57, R124: a line's offset in the window is 64 times its index, counted as the bus counts addresses. -/
theorem lineAddr_eq (base : Addr) (l : LineIndex) : lineAddr base l = base + BitVec.ofNat 32 (l.toNat * 64) := by
  have hoffset : l.setWidth 32 <<< 6 = BitVec.ofNat 32 (l.toNat * 64) := by
    apply BitVec.eq_of_toNat_eq
    simp only [BitVec.toNat_shiftLeft, BitVec.toNat_setWidth, BitVec.toNat_ofNat, Nat.shiftLeft_eq]
    omega
  rw [lineAddr, hoffset]

/-- A grant answers a request of the sweep's that stands (R18). -/
theorem State.request_of_sweepGrantable {s : State} (h : s.sweepGrantable = true) : s.sweep.request = true := by
  simp only [State.sweepGrantable, Bool.and_eq_true] at h
  obtain ⟨⟨⟨-, hrequest⟩, -⟩, -⟩ := h
  exact hrequest

/-- R61, R62: with no request standing there is nothing to grant. -/
theorem State.sweepGrantable_of_no_request {s : State} (h : s.sweep.request = false) : s.sweepGrantable = false := by
  simp [State.sweepGrantable, h]

/-- R37: while the sweep's request stands, the margin of the capacity law leaves the journal a slot. -/
theorem CapacityLaw.slot_of_request {s : State} (h : CapacityLaw s) (hr : s.sweep.request = true) : s.journal.records.length < 256 := by
  obtain ⟨-, hmargin, -⟩ := h
  have hfree : 9 ≤ s.freeSlots := hmargin hr
  unfold State.freeSlots Config.journalSlots at hfree
  omega

/-- SWEEP_GRANT on a running part that can grant: the line read of the copy begins. -/
theorem execSweepGrant_of_grantable {s : State} {c : Copy} (hs : s.Runs) (hc : s.sweep.copy = some c) (hg : s.sweepGrantable = true) :
    execSweepGrant s = .next (s.beginSweepRead c) := by
  simp [execSweepGrant, State.awake_of_runs hs, hc, hg]

/-- SWEEP_GRANT where no grant can be made: nothing happens, whether or not the part runs or a block is in copy. -/
theorem execSweepGrant_of_not_grantable {s : State} (hg : s.sweepGrantable = false) : execSweepGrant s = .next s := by
  cases hreset : s.inReset with
  | true => exact State.awake_of_inReset hreset _
  | false =>
    rw [execSweepGrant, State.awake_of_runs hreset]
    cases s.sweep.copy <;> simp [hg]

/-- What the beginning of a line read does to the state, before the occupancy is tested (R18, R37, R62). -/
theorem State.beginSweepRead_eq (c : Copy) (s : State) :
    s.beginSweepRead c = State.waterTest
      { s with
        mem := { s.mem with use := some ⟨.sweep, ⟨lineAddr s.params.windowBase c.lineIndex, .readLine⟩, s.params.memLimit⟩, sweepWait := 0 },
        sweep := { s.sweep with request := false, read := some ⟨c.lineIndex, true⟩ },
        journal := { s.journal with records := s.journal.records ++ [placeholder c.lineIndex] } } := rfl

/-- Settles O32: the slot by the capacity law, the withdrawn request by the arbiter's condition, and the grant by the effect of the read's
beginning at the address of its line. -/
theorem sweepGrantAppendsThePlaceholder : Obligations.SweepGrantAppendsThePlaceholder := by
  intro s c hs hc hg
  refine ⟨fun hcap => hcap.slot_of_request (State.request_of_sweepGrantable hg), ?_, ?_⟩
  · exact execSweepGrant_of_not_grantable (State.sweepGrantable_of_no_request rfl)
  · have hgrant : exec .sweepGrant s = .next (s.beginSweepRead c) := execSweepGrant_of_grantable hs hc hg
    rw [hgrant, State.beginSweepRead_eq, lineAddr_eq, Copy.toNat_lineIndex]
    rfl

end Sys2Proof.Machine

/-! PROOF. The expiry of the retransmit timer (R109, R110): the rewind that starts the timer again, and past RETRY_LIMIT the local halt of
a primary in UP with the session end it brings. Before it, what a session end and a local halt leave, each said once. -/

namespace Sys2Proof.Machine

open Sys2Proof

/-! ## Occurrences at one cause -/

/-- The causes are declared in the order of their numbers (Table 9.1). -/
theorem AlertCause.ofNat_index (c : AlertCause) : AlertCause.ofNat c.index.val = c := by cases c <;> rfl

theorem AlertCause.index_injective : Function.Injective AlertCause.index :=
  Function.LeftInverse.injective (g := fun i : Fin 15 => AlertCause.ofNat i.val) AlertCause.ofNat_index

/-- R170: a report is an occurrence at its own cause. -/
theorem State.report_cause_same (c : AlertCause) (s : State) : (s.report c).cause c = (s.cause c).occur := by
  simp [State.cause]

/-- R170: a report leaves every other cause. -/
theorem State.report_cause_of_ne {c d : AlertCause} (h : d ≠ c) (s : State) : (s.report d).cause c = s.cause c := by
  have hindex : d.index.val ≠ c.index.val := fun he => h (AlertCause.index_injective (Fin.ext he))
  simp [State.cause, Vector.getElem_set_ne _ _ hindex]

/-- A derivation of the pair state reports PAIR_MIRRORED or PAIR_DEGRADED at most (R143). -/
theorem State.derivePair_cause {c : AlertCause} (hm : .pairMirrored ≠ c) (hd : .pairDegraded ≠ c) (s : State) :
    s.derivePair.cause c = s.cause c := by
  simp only [State.derivePair]
  split
  · exact State.report_cause_of_ne hm _
  · split
    · exact State.report_cause_of_ne hd _
    · rfl

/-- The high-water tests report JOURNAL_HIGH at most (R46). -/
theorem State.waterTest_cause {c : AlertCause} (h : .journalHigh ≠ c) (s : State) : s.waterTest.cause c = s.cause c := by
  unfold State.waterTest
  split
  · split
    · exact State.report_cause_of_ne h _
    · rfl
  · split <;> rfl

/-! ## Markers failed (R148) -/

theorem failTags_cause {c : AlertCause} (h : .markerFailed ≠ c) (ts : List Tag) (s : State) : (failTags ts s).cause c = s.cause c := by
  induction ts generalizing s with
  | nil => rfl
  | cons t rest ih => exact (ih _).trans (State.report_cause_of_ne h _)

theorem failTags_outstanding (ts : List Tag) (s : State) : (failTags ts s).pair.outstanding = s.pair.outstanding := by
  induction ts generalizing s with
  | nil => rfl
  | cons t rest ih => exact ih _

theorem State.failMarkers_cause {c : AlertCause} (h : .markerFailed ≠ c) (s : State) : s.failMarkers.cause c = s.cause c :=
  failTags_cause h _ _

theorem State.failMarkers_outstanding (s : State) : s.failMarkers.pair.outstanding = [] := failTags_outstanding _ _

/-! ## The flags of the dirty map (R51, R52) -/

theorem mem_insertBlock {a b : Block} {bs : List Block} : a ∈ insertBlock b bs ↔ a = b ∨ a ∈ bs := by
  induction bs with
  | nil => simp [insertBlock]
  | cons c cs ih =>
    unfold insertBlock
    split
    · simp
    · rw [List.mem_cons, ih, List.mem_cons, or_left_comm]

theorem DirtyMap.mem_set_flags {a b : Block} {m : DirtyMap} : a ∈ (m.set b).flags ↔ a = b ∨ a ∈ m.flags := by
  unfold DirtyMap.set
  split
  · next hset =>
    have hb : b ∈ m.flags := List.contains_iff_mem.mp hset
    constructor
    · exact Or.inr
    · rintro (rfl | ha)
      · exact hb
      · exact ha
  · exact mem_insertBlock

theorem DirtyMap.mem_foldl_set_flags {a : Block} {bs : List Block} {m : DirtyMap} :
    a ∈ (bs.foldl DirtyMap.set m).flags ↔ a ∈ bs ∨ a ∈ m.flags := by
  induction bs generalizing m with
  | nil => simp
  | cons b rest ih =>
    rw [List.foldl_cons, ih, DirtyMap.mem_set_flags, List.mem_cons, or_left_comm, or_assoc]

/-- Requests accepted set the flags they name. -/
theorem State.mem_setFlags_of_mem {b : Block} {bs : List Block} {s : State} (hr : s.role = .primary) (h : b ∈ bs) :
    b ∈ (s.setFlags bs).map.flags := by
  rw [State.setFlags_map bs s hr]
  exact DirtyMap.mem_foldl_set_flags.mpr (.inl h)

/-- A request clears no flag, in any role. -/
theorem State.mem_setFlags_of_flag {b : Block} {s : State} (bs : List Block) (h : b ∈ s.map.flags) : b ∈ (s.setFlags bs).map.flags := by
  by_cases hr : s.role = .primary
  · rw [State.setFlags_map bs s hr]
    exact DirtyMap.mem_foldl_set_flags.mpr (.inr h)
  · rwa [State.setFlags_of_not_primary bs s hr]

theorem State.mem_remarkCopy_of_flag {b : Block} {s : State} (h : b ∈ s.map.flags) : b ∈ s.remarkCopy.map.flags := by
  unfold State.remarkCopy
  split
  · exact State.mem_setFlags_of_flag _ h
  · exact h

/-- R69: the sweep gives a copy back to the map and clears no flag. -/
theorem State.mem_sweepLinkDown_of_flag {b : Block} {s : State} (h : b ∈ s.map.flags) : b ∈ s.sweepLinkDown.map.flags := by
  unfold State.sweepLinkDown
  split
  · exact h
  · exact h
  · simpa using State.mem_remarkCopy_of_flag h

/-! ## The memory port, where only the sweep's wait count changes (R19) -/

theorem State.withdrawRequest_mem (s : State) :
    s.withdrawRequest.mem = { s.mem with sweepWait := s.withdrawRequest.mem.sweepWait } := by
  unfold State.withdrawRequest
  split <;> rfl

theorem State.sweepFall_mem (s : State) : s.sweepFall.mem = { s.mem with sweepWait := s.sweepFall.mem.sweepWait } := by
  unfold State.sweepFall
  split <;> rfl

theorem State.retestHost_mem (s : State) : s.retestHost.mem = { s.mem with sweepWait := s.retestHost.mem.sweepWait } := by
  unfold State.retestHost
  split
  · split
    · rfl
    · exact State.sweepFall_mem _
    · rfl
    · rfl
    · rfl
  · rfl

theorem State.sweepLinkDown_mem (s : State) : s.sweepLinkDown.mem = { s.mem with sweepWait := s.sweepLinkDown.mem.sweepWait } := by
  unfold State.sweepLinkDown
  split
  · rfl
  · rfl
  · have h := State.withdrawRequest_mem s.remarkCopy
    rw [State.remarkCopy_mem] at h
    exact h

/-! ## The session end (R45) -/

/-- Steps 1 to 5 of the session end: flags, markers, journal and host port. -/
def State.sessionCleared (s : State) : State :=
  State.hostSessionEnd
    { (s.setFlags (s.journal.records.filterMap Record.block?)).failMarkers with
      journal := { s.journal with records := [] } }

theorem State.sessionEnd_eq (s : State) : s.sessionEnd = s.sessionCleared.sweepLinkDown.retestHost.resetSender.waterTest := by
  simp [State.sessionEnd, State.sessionCleared]

theorem State.sessionCleared_mem (s : State) : s.sessionCleared.mem = s.mem := by
  simp [State.sessionCleared, State.hostSessionEnd]

theorem State.sessionEnd_mem (s : State) : s.sessionEnd.mem = { s.mem with sweepWait := s.sessionEnd.mem.sweepWait } := by
  rw [State.sessionEnd_eq, State.waterTest_mem, State.resetSender_mem, State.retestHost_mem, State.sweepLinkDown_mem,
    State.sessionCleared_mem]

/-- What a session end can change: the blocks that hold part of the session, and of the memory port the sweep's wait count. -/
theorem State.sessionEnd_frame (s : State) :
    s.sessionEnd =
      { s with journal := s.sessionEnd.journal, sender := s.sessionEnd.sender, map := s.sessionEnd.map, sweep := s.sessionEnd.sweep,
               host := s.sessionEnd.host, pair := s.sessionEnd.pair, alert := s.sessionEnd.alert,
               mem := { s.mem with sweepWait := s.sessionEnd.mem.sweepWait } } := by
  rw [← State.sessionEnd_mem, ← s.sessionEnd_pending, ← s.sessionEnd_lines, ← s.sessionEnd_freeIndex, ← s.sessionEnd_inReset,
    ← s.sessionEnd_role, ← s.sessionEnd_regions, ← s.sessionEnd_params, ← s.sessionEnd_link, ← s.sessionEnd_wire,
    ← s.sessionEnd_receiver, ← s.sessionEnd_apply, ← s.sessionEnd_mgmt, ← s.sessionEnd_counters]

/-- R45, R148: no marker is left outstanding. -/
theorem State.sessionEnd_outstanding (s : State) : s.sessionEnd.pair.outstanding = [] := by
  simp [State.sessionEnd, State.hostSessionEnd, State.failMarkers_outstanding]

/-- R45: on a primary the blocks of the journal's records are dirty. -/
theorem State.mem_sessionEnd_flags {b : Block} {s : State} (hr : s.role = .primary)
    (hb : b ∈ s.journal.records.filterMap Record.block?) : b ∈ s.sessionEnd.map.flags := by
  have hset : b ∈ s.sessionCleared.map.flags := by
    simpa [State.sessionCleared, State.hostSessionEnd] using State.mem_setFlags_of_mem hr hb
  simpa [State.sessionEnd_eq] using State.mem_sweepLinkDown_of_flag hset

/-- A session end reports MARKER_FAILED and JOURNAL_HIGH at most. -/
theorem State.sessionEnd_cause {c : AlertCause} (hm : .markerFailed ≠ c) (hj : .journalHigh ≠ c) (s : State) :
    s.sessionEnd.cause c = s.cause c := by
  calc s.sessionEnd.cause c
      = s.sessionCleared.sweepLinkDown.retestHost.resetSender.cause c := by rw [State.sessionEnd_eq, State.waterTest_cause hj]
    _ = (s.setFlags (s.journal.records.filterMap Record.block?)).failMarkers.cause c := by
        simp [State.cause, State.sessionCleared, State.hostSessionEnd]
    _ = s.cause c := by
        rw [State.failMarkers_cause hm]
        simp [State.cause]

/-! ## A local halt of a primary in UP (R92, R93) -/

/-- The session end comes with the link already HALTED and its HALT due, and LINK_HALTED is reported after it. -/
theorem State.localHalt_of_up_primary {s : State} (hup : s.link.state = .up) (hr : s.role = .primary) (r : HaltReason) :
    s.localHalt r = ((s.dueHalt r).setLink .halted).sessionEnd.report .linkHalted := by
  simp [State.localHalt, State.departUp, hup, hr]

section
variable {s : State} (hup : s.link.state = .up) (hr : s.role = .primary) (r : HaltReason)
include hup hr

theorem State.localHalt_link : (s.localHalt r).link = ((s.dueHalt r).setLink .halted).link := by
  simp [State.localHalt_of_up_primary hup hr]

theorem State.localHalt_due : (s.localHalt r).link.due.halt = some r := by
  rw [State.localHalt_link hup hr]
  rfl

theorem State.localHalt_tx : (s.localHalt r).link.tx = s.link.tx := by
  rw [State.localHalt_link hup hr]
  rfl

theorem State.localHalt_records : (s.localHalt r).journal.records = [] := by
  simp [State.localHalt_of_up_primary hup hr, State.sessionEnd_records]

theorem State.localHalt_sender : (s.localHalt r).sender = Sender.powerOn := by
  simp [State.localHalt_of_up_primary hup hr, State.sessionEnd_sender]

theorem State.localHalt_outstanding : (s.localHalt r).pair.outstanding = [] := by
  simp [State.localHalt_of_up_primary hup hr, State.sessionEnd_outstanding]

theorem State.localHalt_frame :
    s.localHalt r =
      { s with link := (s.localHalt r).link, journal := (s.localHalt r).journal, sender := (s.localHalt r).sender,
               map := (s.localHalt r).map, sweep := (s.localHalt r).sweep, host := (s.localHalt r).host, pair := (s.localHalt r).pair,
               alert := (s.localHalt r).alert, mem := { s.mem with sweepWait := (s.localHalt r).mem.sweepWait } } := by
  rw [State.localHalt_of_up_primary hup hr, State.sessionEnd_frame]
  rfl

theorem State.localHalt_cause : (s.localHalt r).cause .linkHalted = (s.cause .linkHalted).occur := by
  rw [State.localHalt_of_up_primary hup hr, State.report_cause_same, State.sessionEnd_cause (by decide) (by decide)]
  rfl

theorem State.mem_localHalt_flags {b : Block} (hb : b ∈ s.journal.records.filterMap Record.block?) :
    b ∈ (s.localHalt r).map.flags := by
  rw [State.localHalt_of_up_primary hup hr]
  exact State.mem_sessionEnd_flags (s := (s.dueHalt r).setLink .halted) hr hb

end

/-! ## The end of an event that made a HALT due (R78, R141) -/

/-- HALT comes first of all the frames due. -/
theorem State.kick_of_halt_due {s : State} {r : HaltReason} (htx : s.link.tx = none) (hdue : s.link.due.halt = some r) :
    s.kick = s.transmit (.halt r) { s.link.due with halt := none } := by
  simp [State.kick, htx, hdue]

/-- With a HALT due the transmitter changes its own frame and the due flags at most. -/
theorem State.kick_frame_of_halt_due {s : State} {r : HaltReason} (hdue : s.link.due.halt = some r) :
    s.kick = { s with link := { s.link with tx := s.kick.link.tx, due := s.kick.link.due } } := by
  cases htx : s.link.tx with
  | none => rw [State.kick_of_halt_due htx hdue]; rfl
  | some f => rw [State.kick_of_busy s (by simp [htx])]

theorem State.finish_frame_of_halt_due {s : State} {r : HaltReason} (hdue : s.link.due.halt = some r) :
    s.finish =
      { s with pair := { s.pair with state := s.derivedPair }, alert := s.derivePair.alert,
               link := { s.link with tx := s.finish.link.tx, due := s.finish.link.due } } := by
  have hkick := State.kick_frame_of_halt_due (s := s.derivePair) (by simpa using hdue)
  rw [State.derivePair_link] at hkick
  rw [State.finish, hkick, ← State.derivePair_state, State.derivePair_frame]

/-- The derivation that ends an event reports PAIR_MIRRORED or PAIR_DEGRADED at most, and the transmitter nothing. -/
theorem State.finish_cause {c : AlertCause} (hm : .pairMirrored ≠ c) (hd : .pairDegraded ≠ c) (s : State) :
    s.finish.cause c = s.cause c :=
  calc s.finish.cause c = s.derivePair.cause c := by simp [State.cause, State.finish]
    _ = s.cause c := State.derivePair_cause hm hd s

theorem State.finish_link_of_busy {s : State} (htx : s.link.tx.isSome = true) : s.finish.link = s.link := by
  rw [State.finish, State.kick_of_busy _ (by simpa using htx), State.derivePair_link]

section
variable {s : State} {r : HaltReason} (hdue : s.link.due.halt = some r)
include hdue

theorem State.finish_tx_of_halt_due (htx : s.link.tx = none) :
    s.finish.link.tx = some (.halt r) ∧ s.finish.link.due.halt = none := by
  rw [State.finish, State.kick_of_halt_due (by simpa using htx) (by simpa using hdue)]
  exact ⟨rfl, rfl⟩

/-- R141: the pair state stands as Table 7.2 gives it of the state the event leaves. -/
theorem State.finish_pairState_of_halt_due : s.finish.pair.state = s.finish.derivedPair := by
  rw [State.finish_frame_of_halt_due hdue]
  rfl

end

/-- A local halt and the end of its event: the link, the blocks that hold part of the session, the pair state and the alerts. -/
theorem State.localHalt_finish_frame {s : State} (hup : s.link.state = .up) (hr : s.role = .primary) (r : HaltReason) :
    let u := (s.localHalt r).finish
    u = { s with link := u.link, journal := u.journal, sender := u.sender, map := u.map, sweep := u.sweep, host := u.host,
                 pair := u.pair, alert := u.alert, mem := { s.mem with sweepWait := u.mem.sweepWait } } := by
  dsimp only
  rw [State.finish_frame_of_halt_due (State.localHalt_due hup hr r), State.localHalt_frame hup hr]

/-! ## The expiry of the retransmit timer (R109, R110) -/

/-- A rewind moves no record to another block. -/
theorem Record.rewind_block? (r : Record) : r.rewind.block? = r.block? := by
  unfold Record.rewind
  split <;> rfl

/-- What every expiry of the retransmit timer does first: the rewind, and one more in the retry count (R109). -/
def State.rewoundForRetry (s : State) : State := { s.rewind with sender := { s.sender with retries := s.sender.retries + 1 } }

theorem State.rewoundForRetry_blocks (s : State) :
    s.rewoundForRetry.journal.records.filterMap Record.block? = s.journal.records.filterMap Record.block? := by
  have hblock : Record.block? ∘ Record.rewind = Record.block? := funext Record.rewind_block?
  rw [State.rewoundForRetry, State.rewind_journal, List.filterMap_map, hblock]

theorem execRetransmitTimerExpiry_within_limit {s : State} {p : Nat} (hs : s.Runs) (ht : s.sender.timer = some p)
    (hl : s.sender.retries + 1 ≤ s.params.retryLimit) :
    execRetransmitTimerExpiry s = .next s.rewoundForRetry.startRetx.kick := by
  simp [execRetransmitTimerExpiry, State.awake_of_runs hs, ht, hl, State.rewoundForRetry]

theorem execRetransmitTimerExpiry_past_limit {s : State} {p : Nat} (hs : s.Runs) (ht : s.sender.timer = some p)
    (hl : s.params.retryLimit < s.sender.retries + 1) :
    execRetransmitTimerExpiry s = .next (s.rewoundForRetry.localHalt .retryExhausted).finish := by
  simp [execRetransmitTimerExpiry, State.awake_of_runs hs, ht, Nat.not_le.mpr hl, State.rewoundForRetry]

/-- Settles O39: within the limit the rewind, the timer and the transmitter; past it a local halt with its session end, made on the rewound
state, whose journal and sender the session end drops, and the end of an event that made a HALT due. -/
theorem retransmitExpiryRewindsOrHalts : Obligations.RetransmitExpiryRewindsOrHalts := by
  intro s p hs ht
  refine ⟨fun hl => execRetransmitTimerExpiry_within_limit hs ht hl, fun hl hr hup => ?_⟩
  have hup' : s.rewoundForRetry.link.state = .up := hup
  have hr' : s.rewoundForRetry.role = .primary := hr
  have hdue := State.localHalt_due hup' hr' .retryExhausted
  have htx := State.localHalt_tx hup' hr' .retryExhausted
  have hlink := State.localHalt_link hup' hr' .retryExhausted
  have hfinish := State.finish_frame_of_halt_due hdue
  refine ⟨_, execRetransmitTimerExpiry_past_limit hs ht hl, State.localHalt_finish_frame hup' hr' _, ?_, ?_, ?_, ?_, ?_, ?_, ?_,
    State.finish_pairState_of_halt_due hdue, fun hfree => ?_, fun hbusy => ?_⟩
  · rw [hfinish, hlink]
    rfl
  · rw [hfinish, hlink]
    rfl
  · rw [State.finish_cause (by decide) (by decide), State.localHalt_cause hup' hr']
    rfl
  · rw [hfinish]
    exact State.localHalt_records hup' hr' _
  · rw [hfinish]
    exact State.localHalt_sender hup' hr' _
  · intro b hb
    rw [State.finish_map]
    exact State.mem_localHalt_flags hup' hr' _ (by rwa [State.rewoundForRetry_blocks])
  · rw [hfinish]
    exact State.localHalt_outstanding hup' hr' _
  · exact State.finish_tx_of_halt_due hdue (htx.trans hfree)
  · rw [State.finish_link_of_busy (htx ▸ hbusy)]
    exact ⟨htx, hdue⟩

end Sys2Proof.Machine

/-! PROOF. The marker commands (R146, R150): what PLACE MARKER and READ MARKERS give on the state, and the obligation that says so. -/

namespace Sys2Proof.Machine

open Sys2Proof

/-! ## PLACE MARKER, its conditions in order (R146) -/

section
variable {s : State}

theorem placeMarkerAct_of_not_primary (tag : Tag) (hr : s.role ≠ .primary) : placeMarkerAct tag s = refuse .badState s := if_pos hr

theorem placeMarkerAct_of_not_mirrored (tag : Tag) (hr : s.role = .primary) (hm : s.pair.state ≠ .mirrored) :
    placeMarkerAct tag s = refuse .badState s := by
  simp [placeMarkerAct, hr, hm]

theorem placeMarkerAct_of_list_full (tag : Tag) (hr : s.role = .primary) (hm : s.pair.state = .mirrored)
    (hfull : Config.markerSlots ≤ s.pair.outstanding.length) : placeMarkerAct tag s = refuse .busy s := by
  simp [placeMarkerAct, hr, hm, hfull]

theorem placeMarkerAct_of_no_free_slot (tag : Tag) (hr : s.role = .primary) (hm : s.pair.state = .mirrored) (hfree : s.freeSlots = 0) :
    placeMarkerAct tag s = refuse .busy s := by
  simp [placeMarkerAct, hr, hm, hfree]

theorem placeMarkerAct_of_room (tag : Tag) (hr : s.role = .primary) (hm : s.pair.state = .mirrored)
    (hroom : s.pair.outstanding.length < Config.markerSlots) (hfree : 1 ≤ s.freeSlots) :
    placeMarkerAct tag s = accept (s.placeMarker tag) := by
  simp [placeMarkerAct, hr, hm, Nat.not_le.mpr hroom, Nat.ne_of_gt hfree]

end

/-! ## The two commands taken (R155) -/

/-- PLACE MARKER taken: the port holds the reply, and the rest of the part is as the action leaves it. -/
theorem exec_placeMarker_of_act {s : State} {tag : Tag} {r : Reply} (ht : s.Takes 0x23 (bytes16 tag)) (hact : placeMarkerAct tag s = r) :
    exec (.placeMarker tag) s = .next (r.state.replied 0x23 (bytes16 tag) r.code r.response) :=
  hact ▸ State.takeCommand_of_takes ht (placeMarkerAct tag)

theorem exec_readMarkers_of_takes {s : State} (ht : s.Takes 0x24 []) :
    exec .readMarkers s = .next (State.replied { s with pair := { s.pair with results := [] } } 0x24 [] .ok s.pair.markerBytes) :=
  State.takeCommand_of_takes ht readMarkersAct

/-- Settles O54: a refusal or the acceptance of PLACE MARKER by the first of its conditions that decides, and READ MARKERS by its two
lists. -/
theorem markerCommandsPlaceAndRead : Obligations.MarkerCommandsPlaceAndRead := by
  intro s tag
  refine ⟨fun ht => ⟨?_, ?_, ?_, ?_, ?_⟩, fun ht => ?_⟩
  · intro hr
    exact exec_placeMarker_of_act ht (placeMarkerAct_of_not_primary tag hr)
  · intro hr hm
    exact exec_placeMarker_of_act ht (placeMarkerAct_of_not_mirrored tag hr hm)
  · intro hr hm hfull
    exact exec_placeMarker_of_act ht (placeMarkerAct_of_list_full tag hr hm hfull)
  · intro hr hm _ hfree
    exact exec_placeMarker_of_act ht (placeMarkerAct_of_no_free_slot tag hr hm hfree)
  · intro hr hm hroom hfree
    exact exec_placeMarker_of_act ht (placeMarkerAct_of_room tag hr hm hroom hfree)
  · rw [exec_readMarkers_of_takes ht, PairControl.markerBytes, List.append_assoc]
    rfl

end Sys2Proof.Machine

/-! PROOF. The management commands that read and write the part's registers: READ COUNTERS (R166), STATUS (R160) and the region commands
(R161, R162). -/

namespace Sys2Proof.Machine

open Sys2Proof

/-- A command the port takes, through what its action gives. -/
theorem State.takeCommand_of_act {s : State} {code : Byte} {args : List Byte} {act : State → Reply} {r : Reply} (ht : s.Takes code args)
    (hact : act s = r) : s.takeCommand code args act = .next (r.state.replied code args r.code r.response) :=
  hact ▸ State.takeCommand_of_takes ht act

/-! ## The selection of READ COUNTERS (R166) -/

/-- The indices from `first` on, `number` of them, are a contiguous part of all the indices. -/
theorem finRange_filter_window (m first number : Nat) :
    ((List.finRange m).filter fun i => first ≤ i.val && i.val < first + number) = ((List.finRange m).drop first).take number := by
  induction m generalizing first number with
  | zero => simp
  | succ m ih =>
    rw [List.finRange_succ]
    cases first with
    | succ a =>
      simpa [List.filter_map, Function.comp_def, List.map_take, List.map_drop, Nat.add_right_comm a 1 number]
        using congrArg (List.map Fin.succ) (ih a number)
    | zero =>
      cases number with
      | zero => simp
      | succ n => simpa [List.filter_map, Function.comp_def, List.map_take] using congrArg (List.map Fin.succ) (ih 0 n)

theorem vector_toList_eq_map_finRange {α : Type} {m : Nat} (v : Vector α m) : v.toList = (List.finRange m).map fun i => v[i] :=
  List.ext_getElem (by simp) (by simp)

/-- The bytes of the selected counters, through the counters' indices. -/
theorem selected_bytes_eq_flatMap (cs : Counters) (first number : Nat) :
    ((cs.toList.drop first).take number).flatMap bytes32 =
      ((List.finRange 12).filter fun i => first ≤ i.val && i.val < first + number).flatMap fun i => bytes32 cs[i] := by
  rw [finRange_filter_window, vector_toList_eq_map_finRange, ← List.map_drop, ← List.map_take, List.flatMap_map]

theorem byte_toNat_le_one_iff (b : Byte) : b.toNat ≤ 1 ↔ b = 0x00 ∨ b = 0x01 := by
  bv_omega

theorem countersInRange_iff (first number clear : Byte) :
    countersInRange first number clear = true ↔
      first.toNat ≤ 11 ∧ 1 ≤ number.toNat ∧ number.toNat ≤ 12 ∧ first.toNat + number.toNat ≤ 12 ∧ (clear = 0x00 ∨ clear = 0x01) := by
  rw [← byte_toNat_le_one_iff]
  simp [countersInRange, and_assoc]

theorem Counters.cleared_getElem (first number : Nat) (cs : Counters) (i : Fin 12) :
    (Counters.cleared first number cs)[i] = if first ≤ i.val ∧ i.val < first + number then 0 else cs[i] := by
  simp [Counters.cleared]

/-- The counters READ COUNTERS leaves: with the clear option the selected ones at 0 (R166). -/
def Counters.afterReading (first number clear : Byte) (cs : Counters) : Counters :=
  if clear = 0x01 then cs.cleared first.toNat number.toNat else cs

theorem Counters.afterReading_getElem (first number clear : Byte) (cs : Counters) (i : Fin 12) :
    (cs.afterReading first number clear)[i] =
      if clear = 0x01 ∧ first.toNat ≤ i.val ∧ i.val < first.toNat + number.toNat then 0 else cs[i] := by
  unfold Counters.afterReading
  by_cases hc : clear = 0x01
  · rw [if_pos hc, Counters.cleared_getElem]
    simp only [hc, true_and]
  · rw [if_neg hc, if_neg fun ⟨hclear, _⟩ => hc hclear]

section
variable {s : State} {first number clear : Byte}

theorem readCountersAct_of_bad (h : ¬countersInRange first number clear = true) :
    readCountersAct first number clear s = refuse .badArg s := by
  simp [readCountersAct, h]

theorem readCountersAct_of_good (h : countersInRange first number clear = true) :
    readCountersAct first number clear s =
      answerWith (number :: ((s.counters.toList.drop first.toNat).take number.toNat).flatMap bytes32)
        { s with counters := s.counters.afterReading first number clear } := by
  rw [readCountersAct, if_neg (by simp [h]), Counters.afterReading]
  by_cases hc : clear = 0x01
  · rw [if_pos hc, if_pos hc]
  · rw [if_neg hc, if_neg hc]

end

/-- Table 9.2: the counters in the order of their indices. -/
theorem counters_in_index_order (s : State) :
    [Counter.recordsSent, .recordsResent, .naksReceived, .framesDiscarded, .overflowMarks, .stallTimeouts, .syncTimeouts,
      .memoryTimeouts, .fenceRefusals, .alignRefusals, .sweepBlocksCopied, .recordsApplied].map s.counter = s.counters.toList := by
  rw [vector_toList_eq_map_finRange]
  rfl

/-- Settles O57: the selection is a contiguous part of the counters, and the clear option sets that part to 0. -/
theorem readCountersReturnsAndClears : Obligations.ReadCountersReturnsAndClears := by
  intro s first number clear ht
  refine ⟨counters_in_index_order s, fun hbad => ?_, fun hgood => ?_⟩
  · exact State.takeCommand_of_act ht (readCountersAct_of_bad (mt (countersInRange_iff first number clear).mp hbad))
  · refine ⟨s.counters.afterReading first number clear, ?_, Counters.afterReading_getElem first number clear s.counters⟩
    rw [← selected_bytes_eq_flatMap]
    exact State.takeCommand_of_act ht (readCountersAct_of_good ((countersInRange_iff first number clear).mpr hgood))

/-! ## The STATUS snapshot by the role (R160) -/

theorem State.derivedPair_of_not_primary {s : State} (hr : s.role ≠ .primary) : s.derivedPair = .alone := if_pos hr

theorem State.derivedPair_ne_alone_of_primary {s : State} (hr : s.role = .primary) : s.derivedPair ≠ .alone := by
  unfold State.derivedPair
  rw [if_neg fun hne => hne hr]
  split
  · decide
  · split <;> decide

section
variable (s : State)

theorem State.statusPair_eq_ite :
    s.statusPair = if s.role = .replica ∨ s.role = .promoting then replicaPairCode else s.pair.state.code := by
  unfold State.statusPair
  cases s.role <;> rfl

theorem State.statusLink_eq_ite : s.statusLink = if s.role = .standalone then 0x00 else s.link.state.code := by
  unfold State.statusLink
  cases s.role <;> rfl

theorem State.statusSweep_eq_ite : s.statusSweep = if s.role = .primary then s.sweep.state.code else 0x00 := by
  unfold State.statusSweep
  cases s.role <;> rfl

theorem State.statusApply_eq_ite :
    s.statusApply = if s.role = .replica ∨ s.role = .promoting then s.apply.state.code else 0x00 := by
  unfold State.statusApply
  cases s.role <;> rfl

theorem State.statusOccupancy_eq_ite :
    s.statusOccupancy = BitVec.ofNat 16 (if s.role = .primary then s.journal.records.length
      else if s.role = .replica ∨ s.role = .promoting then s.receiver.queue.length else 0) := by
  unfold State.statusOccupancy
  cases s.role <;> rfl

theorem State.statusDirty_eq_ite : s.statusDirty = BitVec.ofNat 24 (if s.role = .primary then s.map.count else 0) := by
  unfold State.statusDirty
  cases s.role <;> rfl

theorem State.statusMarkers_eq_ite :
    s.statusMarkers = if s.role = .primary then BitVec.ofNat 8 s.pair.outstanding.length else 0x00 := by
  unfold State.statusMarkers
  cases s.role <;> rfl

/-- Byte 11 as a sum of its two flags (Table 10.4). -/
theorem State.statusFlags_eq_add :
    s.statusFlags = (if s.link.continuity then 0x01 else 0x00) + (if s.alert.anyRaised then 0x02 else 0x00) := by
  unfold State.statusFlags
  cases s.alert.anyRaised <;> cases s.link.continuity <;> decide

theorem State.statusSession_eq_ite : s.statusSession = if s.role = .primary then s.link.lastSession else s.link.lastServed := by
  unfold State.statusSession
  cases s.role <;> rfl

theorem State.statusHalt_eq_pair :
    s.statusHalt = [match s.link.haltRecord with | none => 0x00 | some r => r.reason.code,
      match s.link.haltRecord with | none => 0x00 | some r => r.direction.code] := by
  unfold State.statusHalt
  cases s.link.haltRecord <;> rfl

end

/-- Settles O49: the port's reply carries the snapshot, each of whose fields the role decides; the pair law gives the pair state. -/
theorem statusReportsTheSnapshot : Obligations.StatusReportsTheSnapshot := by
  intro s ht primary replica
  refine ⟨fun ⟨hderived, _⟩ => ⟨fun hr => ?_, fun hr => ?_⟩, ?_⟩
  · exact hderived ▸ State.derivedPair_ne_alone_of_primary hr
  · exact hderived.trans (State.derivedPair_of_not_primary (by simp [hr]))
  · refine (State.takeCommand_of_takes ht _).trans ?_
    simp only [answerWith]
    rw [State.statusBytes, s.statusPair_eq_ite, s.statusLink_eq_ite, s.statusSweep_eq_ite, s.statusApply_eq_ite,
      s.statusOccupancy_eq_ite, s.statusDirty_eq_ite, s.statusMarkers_eq_ite, s.statusFlags_eq_add, s.statusSession_eq_ite,
      s.statusHalt_eq_pair]
    rfl

/-! ## The region table's commands (R161, R162) -/

theorem readRegionAct_of_index (s : State) (i : Fin 16) :
    readRegionAct (BitVec.ofNat 8 i.val) s = answerWith s.regions[i].bytes s := by
  have hi : (BitVec.ofNat 8 i.val).toNat = i.val := by rw [BitVec.toNat_ofNat]; omega
  simp [readRegionAct, hi]

theorem readRegionAct_of_gt {s : State} {index : Byte} (h : 15 < index.toNat) : readRegionAct index s = refuse .badArg s := by
  have hnone : s.regions[index.toNat]? = none := Vector.getElem?_eq_none (by omega)
  simp [readRegionAct, hnone]

/-- An entry after reset reads as zeros (R161). -/
theorem reset_region_bytes (i : Fin 16) : State.reset.regions[i].bytes = [0x00, 0x00, 0x00, 0x00, 0x00, 0x00, 0x00] := by
  simp [State.reset, Region.bytes, Region.powerOn, flagCode, RegionMode.code, FullPolicy.code, bytes16]

/-! The arguments of WRITE REGION (Table 10.1): the value a byte names in its range, and none past it. -/

theorem flagArg_of_le {b : Byte} (h : b.toNat ≤ 1) : flagArg b = some (b == 0x01) := by
  obtain rfl | rfl := (byte_toNat_le_one_iff b).mp h <;> rfl

theorem flagArg_of_gt {b : Byte} (h : 1 < b.toNat) : flagArg b = none := by
  rw [flagArg, if_neg (by rintro rfl; simp at h), if_neg (by rintro rfl; simp at h)]

theorem fullPolicy_of_le {b : Byte} (h : b.toNat ≤ 1) : fullPolicy b = some (if b = 0x00 then .stall else .mark) := by
  obtain rfl | rfl := (byte_toNat_le_one_iff b).mp h <;> rfl

theorem fullPolicy_of_gt {b : Byte} (h : 1 < b.toNat) : fullPolicy b = none := by
  rw [fullPolicy, if_neg (by rintro rfl; simp at h), if_neg (by rintro rfl; simp at h)]

theorem regionMode_of_le {b : Byte} (h : b.toNat ≤ 2) :
    regionMode b = some (if b = 0x00 then .off else if b = 0x01 then .async else .sync) := by
  obtain rfl | rfl | rfl : b = 0x00 ∨ b = 0x01 ∨ b = 0x02 := by bv_omega
  all_goals rfl

theorem regionMode_of_gt {b : Byte} (h : 2 < b.toNat) : regionMode b = none := by
  rw [regionMode, if_neg (by rintro rfl; simp at h), if_neg (by rintro rfl; simp at h), if_neg (by rintro rfl; simp at h)]

section
variable {s : State} {index valid mode policy : Byte} (pattern care : BitVec 16)

theorem writeRegionAct_of_wrong (h : 15 < index.toNat ∨ 1 < valid.toNat ∨ 2 < mode.toNat ∨ 1 < policy.toNat) :
    writeRegionAct index valid mode policy pattern care s = refuse .badArg s := by
  by_cases hi : 15 < index.toNat
  · exact if_pos hi
  · rw [writeRegionAct, if_neg hi]
    rcases h.resolve_left hi with hv | hm | hp
    · simp [flagArg_of_gt hv]
    · simp [regionMode_of_gt hm]
    · simp [fullPolicy_of_gt hp]

theorem writeRegionAct_of_right (h : ¬(15 < index.toNat ∨ 1 < valid.toNat ∨ 2 < mode.toNat ∨ 1 < policy.toNat)) :
    writeRegionAct index valid mode policy pattern care s =
      if s.role ≠ .standalone then refuse .badState s
      else accept (s.putRegion index.toNat (valid == 0x01) (if mode = 0x00 then .off else if mode = 0x01 then .async else .sync)
        (if policy = 0x00 then .stall else .mark) pattern care) := by
  simp only [not_or, Nat.not_lt] at h
  obtain ⟨hi, hv, hm, hp⟩ := h
  rw [writeRegionAct, if_neg (Nat.not_lt.mpr hi), flagArg_of_le hv, regionMode_of_le hm, fullPolicy_of_le hp]

end

/-- Settles O50: an index in range reads its entry, and WRITE REGION's arguments and then the role decide its answer. -/
theorem regionCommandsReadAndWriteEntries : Obligations.RegionCommandsReadAndWriteEntries := by
  intro s
  refine ⟨fun i ht => ?_, fun i => ?_, fun index ht hgt => ?_, ?_⟩
  · exact State.takeCommand_of_act ht (readRegionAct_of_index s i)
  · rw [← reset_region_bytes i]
    exact State.takeCommand_of_act (State.takes_of_deselected rfl rfl _ _) (readRegionAct_of_index State.reset i)
  · exact State.takeCommand_of_act ht (readRegionAct_of_gt hgt)
  · intro index valid mode policy pattern care args wrong ht
    refine ⟨fun hw => ?_, fun hw hr => ?_, fun hw hr => ?_⟩
    · exact State.takeCommand_of_act ht (writeRegionAct_of_wrong pattern care hw)
    · exact State.takeCommand_of_act ht ((writeRegionAct_of_right pattern care hw).trans (if_pos hr))
    · exact State.takeCommand_of_act ht ((writeRegionAct_of_right pattern care hw).trans (if_neg fun hne => hne hr))

end Sys2Proof.Machine

/-! PROOF. The alert commands (R172 to R175): what each does to the causes one by one, and the line that follows. -/

namespace Sys2Proof.Machine

open Sys2Proof

/-! ## What a command does to one cause (R172, R173) -/

theorem Cause.afterRead_eq_ite (c : Cause) :
    c.afterRead = if c.state = .raised then { c with state := .reported } else c := by
  rcases c with ⟨_ | _ | _, count⟩ <;> rfl

/-- A cause that has been read is not RAISED (R172). -/
theorem Cause.afterRead_state_ne_raised (c : Cause) : c.afterRead.state ≠ .raised := by
  rw [Cause.afterRead_eq_ite]
  split
  · exact nofun
  · assumption

theorem Cause.acknowledge_eq_ite (c : Cause) :
    c.acknowledge = if c.state = .reported then { state := .clear, count := 0 } else c := by
  rcases c with ⟨_ | _ | _, count⟩ <;> rfl

/-- ACK ALERTS neither makes a cause RAISED nor takes one from RAISED (R173). -/
theorem Cause.acknowledge_raised_iff (c : Cause) : c.acknowledge.state = .raised ↔ c.state = .raised := by
  rcases c with ⟨_ | _ | _, count⟩ <;> simp [Cause.acknowledge]

/-! ## The line (R175) -/

/-- The line looks at nothing of the causes but which of them are RAISED. -/
theorem AlertUnit.anyEnabledRaised_congr {a b : AlertUnit} (he : a.enables = b.enables)
    (hraised : ∀ i : Fin 15, a.causes[i].state = .raised ↔ b.causes[i].state = .raised) :
    a.anyEnabledRaised = b.anyEnabledRaised := by
  have hbeq (i : Fin 15) : (a.causes[i].state == .raised) = (b.causes[i].state == .raised) := by
    rw [Bool.eq_iff_iff, beq_iff_eq, beq_iff_eq, hraised i]
  simp only [AlertUnit.anyEnabledRaised, he, hbeq]

theorem AlertUnit.anyEnabledRaised_of_no_raised {a : AlertUnit} (h : ∀ i : Fin 15, a.causes[i].state ≠ .raised) :
    a.anyEnabledRaised = false := by
  rw [AlertUnit.anyEnabledRaised, List.any_eq_false]
  intro i _
  rw [Bool.and_eq_true, beq_iff_eq]
  exact fun ⟨_, hraised⟩ => h i hraised

/-! ## READ ALERTS (R172) -/

theorem flatMap_ite_nil_eq_flatMap_filter {α β : Type} (p : α → Prop) [DecidablePred p] (f : α → List β) (l : List α) :
    (l.flatMap fun x => if p x then f x else []) = (l.filter fun x => p x).flatMap f := by
  induction l with
  | nil => rfl
  | cons x rest ih => by_cases hx : p x <;> simp [hx, ih]

/-- The Alert Unit as READ ALERTS leaves it. -/
def AlertUnit.afterRead (a : AlertUnit) : AlertUnit :=
  AlertUnit.settle { a with causes := a.causes.map Cause.afterRead }

section
variable (a : AlertUnit)

theorem AlertUnit.afterRead_cause (i : Fin 15) : a.afterRead.causes[i] = a.causes[i].afterRead := by
  simp [AlertUnit.afterRead, AlertUnit.settle]

/-- READ ALERTS deasserts the line: it leaves no cause RAISED. -/
theorem AlertUnit.afterRead_line : a.afterRead.line = false :=
  AlertUnit.anyEnabledRaised_of_no_raised (a := a.afterRead) fun i => by
    rw [AlertUnit.afterRead_cause]
    exact Cause.afterRead_state_ne_raised _

theorem AlertUnit.raisedCount_eq_length :
    a.raisedCount = ((List.finRange 15).filter fun i => a.causes[i].state == .raised).length :=
  List.countP_eq_length_filter

/-- The bytes of READ ALERTS list the RAISED causes in ascending number. -/
theorem AlertUnit.raisedBytes_eq_flatMap :
    a.raisedBytes = ((List.finRange 15).filter fun i => a.causes[i].state == .raised).flatMap
      fun i => [BitVec.ofNat 8 i.val, a.causes[i].count] :=
  flatMap_ite_nil_eq_flatMap_filter (fun i : Fin 15 => a.causes[i].state = .raised) _ _

end

/-! ## ACK ALERTS (R173) -/

section
variable (mask : BitVec 16) (a : AlertUnit)

theorem AlertUnit.acknowledge_cause (i : Fin 15) :
    (a.acknowledge mask).causes[i] = if mask.getLsbD i.val then a.causes[i].acknowledge else a.causes[i] := by
  simp [AlertUnit.acknowledge, AlertUnit.settle]

theorem AlertUnit.acknowledge_cause_eq_ite (i : Fin 15) :
    (a.acknowledge mask).causes[i] =
      if mask.getLsbD i.val = true ∧ a.causes[i].state = .reported then { state := .clear, count := 0 } else a.causes[i] := by
  rw [AlertUnit.acknowledge_cause]
  by_cases hmask : mask.getLsbD i.val = true
  · rw [if_pos hmask, Cause.acknowledge_eq_ite]
    simp only [hmask, true_and]
  · rw [if_neg hmask, if_neg fun ⟨hnamed, _⟩ => hmask hnamed]

/-- The line stays where the causes and enables before the command put it: the RAISED causes stay RAISED. -/
theorem AlertUnit.acknowledge_line : (a.acknowledge mask).line = a.anyEnabledRaised :=
  AlertUnit.anyEnabledRaised_congr (a := a.acknowledge mask) rfl fun i => by
    rw [AlertUnit.acknowledge_cause]
    split
    · exact Cause.acknowledge_raised_iff _
    · rfl

end

/-! ## The commands' replies (R167, R172 to R174) -/

section
variable {mask : BitVec 16} (s : State)

theorem readAlertsAct_eq :
    readAlertsAct s = answerWith (BitVec.ofNat 8 s.alert.raisedCount :: s.alert.raisedBytes) { s with alert := s.alert.afterRead } := rfl

theorem ackAlertsAct_of_flag15 (h : mask.getLsbD 15 = true) : ackAlertsAct mask s = refuse .badArg s := if_pos h

theorem ackAlertsAct_of_not_flag15 (h : mask.getLsbD 15 = false) :
    ackAlertsAct mask s = accept { s with alert := s.alert.acknowledge mask } := if_neg (Bool.eq_false_iff.mp h)

theorem setAlertEnablesAct_of_flag15 (h : mask.getLsbD 15 = true) : setAlertEnablesAct mask s = refuse .badArg s := if_pos h

theorem setAlertEnablesAct_of_not_flag15 (h : mask.getLsbD 15 = false) :
    setAlertEnablesAct mask s = accept { s with alert := AlertUnit.settle { s.alert with enables := mask.setWidth 15 } } :=
  if_neg (Bool.eq_false_iff.mp h)

end

/-- The fifteen flags of a mask that name a cause are the enables it stores (R174). -/
theorem enables_getLsbD (mask : BitVec 16) (i : Fin 15) : (mask.setWidth 15).getLsbD i.val = mask.getLsbD i.val := by
  simp

/-- Settles O56: each command's reply, the causes it leaves one by one, and the line, which READ ALERTS deasserts because it leaves no
cause RAISED and ACK ALERTS keeps because it leaves the RAISED causes alone. -/
theorem alertCommandsMoveCausesAndLine : Obligations.AlertCommandsMoveCausesAndLine := by
  intro s mask line raised
  refine ⟨fun ht => ?_, fun hflag => ⟨fun ht => ?_, fun ht => ?_⟩, fun hflag => ⟨fun ht => ?_, fun ht => ?_⟩⟩
  · refine ⟨s.alert.afterRead, ?_, rfl, s.alert.afterRead_line, fun i => ?_⟩
    · rw [← s.alert.raisedCount_eq_length, ← s.alert.raisedBytes_eq_flatMap]
      exact State.takeCommand_of_act ht (readAlertsAct_eq s)
    · rw [AlertUnit.afterRead_cause, Cause.afterRead_eq_ite]
  · exact State.takeCommand_of_act ht (ackAlertsAct_of_flag15 s hflag)
  · exact State.takeCommand_of_act ht (setAlertEnablesAct_of_flag15 s hflag)
  · exact ⟨s.alert.acknowledge mask, State.takeCommand_of_act ht (ackAlertsAct_of_not_flag15 s hflag), rfl,
      s.alert.acknowledge_line mask, s.alert.acknowledge_cause_eq_ite mask⟩
  · exact ⟨_, State.takeCommand_of_act ht (setAlertEnablesAct_of_not_flag15 s hflag), rfl, enables_getLsbD mask, rfl⟩

end Sys2Proof.Machine

/-! PROOF. What a command can do, said once: every command leaves the part as one of the effects below says, but for the frame at the
management port; and a step is at most one command, or an event on the lines that reaches no block. Each law of the StepKeeps statements
is then proved effect by effect. -/

namespace Sys2Proof.Machine

open Sys2Proof

set_option Elab.async false

/-! ## Operations that stand within one command, and what they leave alone -/

/-- The port of a primary mirrored write after its arrival, in PORT_WAIT with the block noted (R10). -/
def State.admittedPort (s : State) (t : BusTxn) (b : Block) : HostPort :=
  { HostPort.idle with state := .portWait, txn := some t, noted := some (s.note b) }

/-- The carrying record told that a bound write no longer waits (R17, R22). -/
def State.unbind (s : State) : State := if s.host.bound then s.clearWaiter else s

/-- The memory port after INIT in IN_MEMORY: the host's transaction is abandoned and runs on (R22). -/
def MemPort.abandonHost (m : MemPort) : MemPort :=
  { m with use := m.use.map fun u => if u.owner = .host then { u with owner := .abandonedHost } else u }

/-- A completed read of the copy: the port free, the placeholder filled, no timeout in a row any more (R63). -/
def State.readFilled (data : LineBytes) (s : State) : State :=
  { s.endSweepRead.fillPlaceholder data with sweep := { s.sweep with read := none, timeouts := 0 } }

/-- A host memory timeout beside the answer, with the blocks it marks (R17). -/
def State.timedOut (ds : List Block) (s : State) : State := ((s.bump .memoryTimeouts).report .memoryTimeout).markDirty ds

/-- An apply write past its limit, before the halt (R127). -/
def State.applyFaulted (s : State) : State :=
  State.report .applyFault
    { s.freePort with apply := { state := .fault, todo := [], request := false }, link := { s.link with continuity := false } }

/-- The part left by a HALT received in UP (R91). -/
def State.haltReceived (r : HaltReason) (s : State) : State :=
  let s' := (s.departUp .halted).report .linkHalted
  { s' with link := { s'.link with haltRecord := some { reason := r, direction := .received } } }

theorem State.countHostGrant_frame (s : State) :
    s.countHostGrant = { s with mem := { s.mem with sweepWait := s.countHostGrant.mem.sweepWait, applyRun := s.countHostGrant.mem.applyRun } } := by
  unfold State.countHostGrant
  split
  · rfl
  · split <;> rfl
  · rfl

theorem State.unbind_frame (s : State) : s.unbind = { s with journal := s.unbind.journal } := by
  unfold State.unbind
  split <;> rfl

theorem State.reserveTest_frame (s : State) :
    s.reserveTest = { s with sweep := { s.sweep with state := s.reserveTest.sweep.state, request := s.reserveTest.sweep.request } } := by
  unfold State.reserveTest
  split <;> rfl

theorem State.advanceCopy_frame (c : Copy) (s : State) :
    s.advanceCopy c = { s with sweep := (s.advanceCopy c).sweep, counters := (s.advanceCopy c).counters } := by
  unfold State.advanceCopy
  split
  · rfl
  · rw [State.reserveTest_frame]

theorem State.stopCopy_frame (s : State) : s.stopCopy = { s with map := s.stopCopy.map, sweep := s.stopCopy.sweep } := by
  unfold State.stopCopy State.endCopy
  rw [State.remarkCopy_frame]

theorem State.afterReadTimeout_frame (stop : Bool) (s : State) :
    s.afterReadTimeout stop = { s with sweep := (s.afterReadTimeout stop).sweep, alert := (s.afterReadTimeout stop).alert } := by
  unfold State.afterReadTimeout
  dsimp only
  split
  · rfl
  · split <;> rfl

theorem State.sweepLinkUp_frame (s : State) : s.sweepLinkUp = { s with sweep := s.sweepLinkUp.sweep } := by
  unfold State.sweepLinkUp
  split
  · split <;> rfl
  · rfl

theorem State.startSweep_frame (s : State) : s.startSweep = { s with sweep := s.startSweep.sweep } := by
  unfold State.startSweep
  dsimp only
  split <;> rfl

theorem State.stopSweep_frame (s : State) :
    s.stopSweep = { s with map := s.stopSweep.map, sweep := s.stopSweep.sweep, host := s.stopSweep.host, mem := s.stopSweep.mem } := by
  unfold State.stopSweep
  split
  · rfl
  · rfl
  · rfl
  · unfold State.endCopy
    rw [State.retestHost_frame, State.remarkCopy_frame]
  · split
    · unfold State.endCopy
      rw [State.retestHost_frame, State.withdrawRequest_frame, State.remarkCopy_frame]
    · rfl

theorem State.testHello_frame (h : Hello) (s : State) :
    s.testHello h = { s with link := (s.testHello h).link, map := (s.testHello h).map, alert := (s.testHello h).alert } := by
  unfold State.testHello State.roleConflict State.decide State.recheck
  split
  · split
    · split <;> rfl
    · split
      · split
        · dsimp only
          split <;> rfl
        · split
          · rfl
          · split <;> rfl
      · rfl
  · split
    · split <;> rfl
    · rfl
  · rfl

theorem State.testStart_frame (session : SessionNo) (mode : SessionMode) (s : State) :
    s.testStart session mode =
      { s with link := (s.testStart session mode).link, receiver := (s.testStart session mode).receiver,
               alert := (s.testStart session mode).alert } := by
  unfold State.testStart
  split <;> rfl

theorem State.dueTraining_frame (s : State) : s.dueTraining = { s with link := { s.link with due := s.dueTraining.link.due } } := by
  unfold State.dueTraining
  split <;> rfl

theorem State.placeData_frame (r : QueueRecord) (s : State) :
    s.placeData r =
      { s with receiver := (s.placeData r).receiver, link := (s.placeData r).link, apply := (s.placeData r).apply,
               counters := (s.placeData r).counters } := by
  unfold State.placeData State.acceptData State.gap
  dsimp only
  split
  · split
    · split
      · rw [takeQueue_frame]
      · rfl
    · split <;> rfl
  · split
    · rfl
    · split <;> rfl

theorem State.applyHead_frame (s : State) :
    s.applyHead =
      { s with receiver := s.applyHead.receiver, counters := s.applyHead.counters, link := s.applyHead.link, apply := s.applyHead.apply } := by
  unfold State.applyHead
  split
  · rw [takeQueue_frame, State.recordApplied_frame]
  · rfl

theorem State.acceptNak_frame (d : Nat) (s : State) :
    s.acceptNak d =
      { s with journal := (s.acceptNak d).journal, host := (s.acceptNak d).host, pair := (s.acceptNak d).pair, alert := (s.acceptNak d).alert,
               sweep := (s.acceptNak d).sweep, mem := (s.acceptNak d).mem, sender := (s.acceptNak d).sender } := by
  unfold State.acceptNak
  dsimp only
  split
  · split
    · unfold State.stopRetx State.rewind
      rw [State.remove_frame]
    · unfold State.rewind
      rw [State.remove_frame]
  · unfold State.rewind
    rw [State.progress_frame, State.remove_frame]

/-! ## The effects of the commands -/

/-- What a command can do to a part in state s, beside the frame at the management port. -/
inductive Effect (s : State) : State → Prop
  | unchanged : Effect s s
  | ownFields (n : Nat) (held : Bool) : Effect s { s with freeIndex := n, inReset := held }
  | counters (cs : Counters) : Effect s { s with counters := cs }
  -- The host port: arrivals (R6 to R10)
  | passes (t : BusTxn) (hready : s.hostReady = true) (hfree : s.role = .standalone ∨ s.touchedMirrored t = []) :
      Effect s { s with host := { HostPort.idle with state := .portWait, txn := some t } }
  | misaligned (hready : s.hostReady = true) : Effect s s.refuseMisaligned
  | fenced (hready : s.hostReady = true) : Effect s s.refuseFenced
  | admitted (t : BusTxn) (b : Block) (hready : s.hostReady = true) : Effect s { s with host := s.admittedPort t b }
  | claimed (t : BusTxn) (b : Block) (hready : s.hostReady = true) (hslot : s.journal.records.length < 256) :
      Effect s (State.sweepFall { s with host := { s.admittedPort t b with claim := true } })
  | marked (t : BusTxn) (b : Block) (hready : s.hostReady = true) (hrole : s.role = .primary) (hb : isMirrored s.regions b = true) :
      Effect s ((State.bump .overflowMarks { s with host := s.admittedPort t b }).markDirty [b])
  | stalled (t : BusTxn) (b : Block) (hready : s.hostReady = true) (hrole : s.role = .primary) (hb : isMirrored s.regions b = true) :
      Effect s { s with host := { s.admittedPort t b with state := .spaceWait, timer := some s.params.holdLimit } }
  -- INIT (R22)
  | initDrops (hwaits : s.host.state = .spaceWait ∨ s.host.state = .portWait) : Effect s s.dropHost
  | initReleases (hwaits : s.host.state = .portWait) (hclaim : s.host.claim = true) : Effect s s.dropHost.sweepRise
  | initAbandons (hmem : s.host.state = .inMemory) : Effect s { s.unbind.dropHost with mem := s.mem.abandonHost }
  | initEndsHold (hhold : s.host.state = .syncHold) : Effect s s.clearWaiter.dropHost
  -- The grant (R13, Table 1.6)
  | forwarded (t : BusTxn) (htxn : s.host.txn = some t) (hgrant : s.hostGrantable = true)
      (hfence : s.role = .standalone ∨ s.role = .primary ∨ s.touchedMirrored t = []) :
      Effect s (s.countHostGrant.releaseClaim.forward t)
  | dirtied (t : BusTxn) (ds : List Block) (htxn : s.host.txn = some t) (hgrant : s.hostGrantable = true) (hrole : s.role = .primary)
      (hds : ∀ d ∈ ds, isMirrored s.regions d = true) : Effect s ((s.countHostGrant.releaseClaim.markDirty ds).forward t)
  | merged (t : BusTxn) (bound : Bool) (htxn : s.host.txn = some t) (hgrant : s.hostGrantable = true) (hrole : s.role = .primary)
      (hup : s.link.state = .up) (htail : s.journal.tailMerges (s.txnLine t) = true) :
      Effect s ((State.releaseClaim
        { s.countHostGrant.changeTail (Record.merge t bound) with host := { s.host with bound := bound } }).forward t)
  | appended (t : BusTxn) (bound : Bool) (b : Block) (htxn : s.host.txn = some t) (hgrant : s.hostGrantable = true)
      (hrole : s.role = .primary) (hup : s.link.state = .up) (hclaim : s.host.claim = true) (halign : misalignedLineWrite t = false)
      (hb : b ∈ s.touchedMirrored t) :
      Effect s ((State.waterTest { s.countHostGrant.appendRecord (lineRecord (s.txnLine t) t bound) with
        host := { s.host with claim := false, bound := bound } }).kick.forward t)
  | grantFenced (hgrant : s.hostGrantable = true) (hrole : s.role = .replica ∨ s.role = .promoting) : Effect s s.countHostGrant.refuseFenced
  -- The ends at memory and the expiries of HOLD_LIMIT (R12, R15 to R17)
  | hostHeld (u : PortUse) (huse : s.mem.use = some u) (hown : u.owner = .host) (hbound : s.host.bound = true) :
      Effect s { s.freePort with host := { s.host with state := .syncHold, timer := some s.params.holdLimit } }
  | hostDone (u : PortUse) (a : HostAnswer) (huse : s.mem.use = some u) (hown : u.owner = .host) (hbound : s.host.bound = false) :
      Effect s (s.freePort.answer a)
  | hostDiscarded (u : PortUse) (huse : s.mem.use = some u) (hown : u.owner = .abandonedHost) : Effect s s.freePort
  | hostTimedOut (u : PortUse) (ds : List Block) (huse : s.mem.use = some u) (hown : u.owner = .host)
      (hds : ∀ d ∈ ds, isMirrored s.regions d = true) : Effect s ((s.unbind.freePort.answer .fault).timedOut ds)
  | abandonedTimedOut (u : PortUse) (ds : List Block) (huse : s.mem.use = some u) (hown : u.owner = .abandonedHost)
      (hds : ∀ d ∈ ds, isMirrored s.regions d = true) : Effect s (s.freePort.timedOut ds)
  | spaceExpired (n : NotedBlock) (hwait : s.host.state = .spaceWait) (hnoted : s.host.noted = some n) :
      Effect s ((State.bump .stallTimeouts (s.toPortWait false)).markDirty [n.block])
  | holdExpired (hhold : s.host.state = .syncHold) :
      Effect s (((s.clearWaiter.answer .doneWrite).bump .syncTimeouts).report .syncTimeout)
  -- The repair sweep (chapter 3)
  | selected (b : Block) (hscan : s.sweep.state = .scanning) (hb : s.map.nextDirty = some b) : Effect s (s.select b).retestHost.finish
  | sweepGranted (c : Copy) (hc : s.sweep.copy = some c) (hgrant : s.sweepGrantable = true) : Effect s (s.beginSweepRead c)
  | readStopped (c : Copy) (data : LineBytes) (hc : s.sweep.copy = some c) (hread : s.sweepReadInMemory true = true)
      (hstop : s.sweep.stopPending = true) : Effect s (s.readFilled data).stopCopy.retestHost.finish
  | readAdvanced (c : Copy) (data : LineBytes) (hc : s.sweep.copy = some c) (hread : s.sweepReadInMemory true = true)
      (hgo : s.sweep.stopPending = false) : Effect s ((s.readFilled data).advanceCopy c).retestHost.finish
  | readTimedOut (hread : s.sweepReadInMemory true = true) :
      Effect s
        (s.endSweepRead.withdrawPlaceholder.remarkCopy.afterReadTimeout s.sweep.stopPending).announceRise.waterTest.finish
  | orphanEnded (hread : s.sweepReadInMemory false = true) : Effect s s.endSweepRead
  -- The timers and the transmitter (chapters 4 and 5)
  | repeated (hrun : s.link.repeatRun = true) : Effect s s.dueTraining.kick
  | kept (hrun : s.link.keepaliveRun = true) :
      Effect s (State.kick { s with link := { s.link with due := { s.link.due with idle := true }, keepaliveRun := false } })
  | silent (l : Nat) (hrun : s.link.silence = some l) : Effect s s.loseLink.finish
  | resent (p : Nat) (hrun : s.sender.timer = some p) : Effect s s.rewoundForRetry.startRetx.kick
  | exhausted (p : Nat) (hrun : s.sender.timer = some p) : Effect s (s.rewoundForRetry.localHalt .retryExhausted).finish
  | frameEnded :
      Effect s (State.kick (State.lineFill { s with link := { s.link with tx := none, keepaliveRun := s.linkUp } }))
  -- The frames taken (chapters 4 to 6)
  | heard (hup : s.link.state = .up) : Effect s s.restartSilence
  | helloTested (h : Hello) (htrain : s.link.state = .training) : Effect s (s.testHello h).finish
  | helloInUp (h : Hello) (hup : s.link.state = .up) : Effect s (s.restartSilence.loseLink.testHello h).finish
  | startTested (session : SessionNo) (mode : SessionMode) (hrole : s.role = .replica) (htrain : s.link.state = .training) :
      Effect s (s.testStart session mode).finish
  | startRepeated (hrole : s.role = .replica) (hup : s.link.state = .up) : Effect s s.restartSilence.dueReady.kick
  | startInUp (session : SessionNo) (mode : SessionMode) (hrole : s.role = .replica) (hup : s.link.state = .up) :
      Effect s (s.restartSilence.loseLink.testStart session mode).finish
  | ready (hrole : s.role = .primary) (htrain : s.link.state = .training) : Effect s s.enterUp.resetSender.sweepLinkUp.finish
  | dataTaken (r : QueueRecord) (hrole : s.role = .replica) (hup : s.link.state = .up) : Effect s (s.restartSilence.placeData r).kick
  | acked (n : Nat) (hrole : s.role = .primary) (hup : s.link.state = .up) (hn : n ≤ s.journal.outstanding) :
      Effect s (s.restartSilence.remove n).progress.kick
  | nakCounted (hup : s.link.state = .up) : Effect s (s.restartSilence.bump .naksReceived)
  | naked (d : Nat) (hrole : s.role = .primary) (hup : s.link.state = .up) (hd : d ≤ s.journal.outstanding) :
      Effect s ((s.restartSilence.bump .naksReceived).acceptNak d).kick
  | halted (r : HaltReason) (hup : s.link.state = .up) : Effect s (s.restartSilence.haltReceived r).finish
  -- The apply engine (chapter 6)
  | applyGranted (t : BusTxn) (n : Nat) (hgrant : s.applyGrantable = true) :
      Effect s { s.startMemory .apply t with
        mem := { (s.startMemory .apply t).mem with applyRun := n }, apply := { s.apply with request := false } }
  | applyContinued (t : BusTxn) (ts : List BusTxn) (huse : s.applyInMemory = true) (happly : s.apply.state = .applying) :
      Effect s (State.finish { s.freePort with apply := { s.apply with todo := t :: ts, request := true } })
  | applied (huse : s.applyInMemory = true) (happly : s.apply.state = .applying) : Effect s s.freePort.applyHead.endPromotion.finish
  | applyFaults (huse : s.applyInMemory = true) (happly : s.apply.state = .applying) (hrole : s.role ≠ .promoting) :
      Effect s (s.applyFaulted.localHalt .applyFault).finish
  | promotionFaults (huse : s.applyInMemory = true) (happly : s.apply.state = .applying) (hrole : s.role = .promoting) :
      Effect s (s.applyFaulted.localHalt .applyFault).discardQueue.endPromotion.finish
  -- The management commands (chapters 7 to 9)
  | regionWritten (index : Nat) (r : Region) (hrole : s.role = .standalone) :
      Effect s { s with regions := s.regions.setIfInBounds index r }
  | paramWritten (p : Param) (v : BitVec 32) (hrange : p.inRange v = true) (hrole : s.paramWritable p = true) :
      Effect s (State.afterParam p v { s with params := s.params.put p v })
  | becamePrimary (hrole : s.role = .standalone) : Effect s s.becomePrimary
  | becameReplica (hrole : s.role = .standalone) (hfree : s.hostWriteToMirrored = false) : Effect s s.becomeReplica
  | leftPrimary (hrole : s.role = .primary) : Effect s s.leavePrimary
  | repairStarted (hrole : s.role = .primary) (hup : s.link.state = .up) : Effect s s.startSweep.derivePair
  | repairStopped (hrole : s.role = .primary) : Effect s s.stopSweep.derivePair
  | markerPlaced (tag : Tag) (hrole : s.role = .primary) (hpair : s.pair.state = .mirrored) (hroom : s.pair.outstanding.length < 8)
      (hslot : 1 ≤ s.freeSlots) : Effect s (s.placeMarker tag)
  | markersRead : Effect s { s with pair := { s.pair with results := [] } }
  | relinked (hhalt : s.link.state = .halted) : Effect s s.enterTraining.finish
  | promoted (hrole : s.role = .replica) : Effect s s.beginPromotion
  | faultCleared (hfault : s.apply.state = .fault) : Effect s s.discardQueue
  | alertsRead : Effect s { s with alert := s.alert.afterRead }
  | alertsAcked (mask : BitVec 16) : Effect s { s with alert := s.alert.acknowledge mask }
  | alertsEnabled (enables : BitVec 15) : Effect s { s with alert := AlertUnit.settle { s.alert with enables := enables } }
  | softReset : Effect s s.softReset
  | powerOnReset (n : Nat) : Effect s (State.powerOnReset { s with freeIndex := n })

end Sys2Proof.Machine

/-! PROOF. Every command has one of the effects, and so has a next state (R153, log entry 5). -/

namespace Sys2Proof.Machine

open Sys2Proof

set_option Elab.async false

/-- A result is a next state that an effect gives, with some frame at the management port. -/
def HasEffect (s : State) (r : Result) : Prop := ∃ u m, Effect s u ∧ r = .next { u with mgmt := m }

theorem HasEffect.of {s u : State} (h : Effect s u) : HasEffect s (.next u) := ⟨u, u.mgmt, h, rfl⟩

theorem HasEffect.unchanged (s : State) : HasEffect s (.next s) := .of .unchanged

theorem HasEffect.port (s : State) (m : Mgmt) : HasEffect s (.next { s with mgmt := m }) := ⟨s, m, .unchanged, rfl⟩

theorem HasEffect.awake {s : State} {r : Result} (h : HasEffect s r) : HasEffect s (s.awake r) := by
  unfold State.awake
  split
  · exact .unchanged s
  · exact h

/-- A command the port takes has the effect of its action. -/
theorem HasEffect.takeCommand {s : State} {act : State → Reply} (h : Effect s (act s).state) (code : Byte) (args : List Byte) :
    HasEffect s (s.takeCommand code args act) := by
  refine HasEffect.awake ?_
  split
  · exact ⟨(act s).state, _, h, rfl⟩
  · exact .unchanged s

theorem State.isMirrored_of_touched {s : State} {t : BusTxn} {d : Block} (h : d ∈ s.touchedMirrored t) : isMirrored s.regions d = true := by
  rw [State.touchedMirrored, List.mem_filter] at h
  exact h.2

theorem State.isMirrored_of_touched_cons {s : State} {t : BusTxn} {b : Block} {bs : List Block} (h : s.touchedMirrored t = b :: bs) :
    isMirrored s.regions b = true :=
  State.isMirrored_of_touched (t := t) (h ▸ List.mem_cons_self)

/-! ## The host port -/

/-- A free slot counted on a port without a claim is a slot of the journal (R32). -/
theorem State.slot_of_freeSlots {s : State} (h : 1 ≤ s.freeSlots) : s.journal.records.length < 256 := by
  unfold State.freeSlots Config.journalSlots at h
  omega

theorem State.admitWrite_effect {s : State} {t : BusTxn} {b : Block} (hready : s.hostReady = true) (hrole : s.role = .primary)
    (hb : isMirrored s.regions b = true) :
    Effect s (State.admitWrite t b { s with host := { HostPort.idle with txn := some t } }) := by
  unfold State.admitWrite
  dsimp only
  split
  · exact .admitted t b hready
  · next hclaim =>
    refine .claimed t b hready (State.slot_of_freeSlots (s := { s with host := { HostPort.idle with txn := some t } }) ?_)
    unfold State.admission at hclaim
    split at hclaim
    · cases hclaim
    · split at hclaim
      · assumption
      · split at hclaim
        · cases hclaim
        · split at hclaim
          · cases hclaim
          · cases hclaim
  · exact .admitted t b hready
  · exact .marked t b hready hrole hb
  · exact .stalled t b hready hrole hb

theorem execArrival_effect (t : BusTxn) (s : State) : HasEffect s (execArrival t s) := by
  refine HasEffect.awake ?_
  split
  · next hready =>
    refine .of ?_
    unfold State.classify
    split
    · next hrole => exact .passes t hready (.inl hrole)
    · next hrole =>
      split
      · next hnone => exact .passes t hready (.inr hnone)
      · next b bs hsome =>
        split
        · exact .misaligned hready
        · exact State.admitWrite_effect hready hrole (State.isMirrored_of_touched_cons (s := s) hsome)
    · split
      · next hnone => exact .passes t hready (.inr hnone)
      · exact .fenced hready
  · exact .unchanged s

/-- Beyond SPACE_WAIT a rise of the free-slot count reaches the sweep only. -/
theorem State.announceRise_of_not_waiting (s : State) (h : s.host.state ≠ .spaceWait) : s.announceRise = s.sweepRise := by
  rw [State.announceRise, State.retestHost_of_not_waiting s h]

theorem State.abandon_effect (s : State) : Effect s s.abandon := by
  unfold State.abandon
  split
  · exact .unchanged
  · next h => exact .initDrops (.inl h)
  · next h =>
    split
    · next hclaim =>
      rw [State.announceRise_of_not_waiting _ (by simp [HostPort.idle])]
      exact .initReleases h hclaim
    · exact .initDrops (.inr h)
  · next h =>
    have hmem : s.unbind.mem = s.mem := by rw [State.unbind_frame]
    have heq := Effect.initAbandons (s := s) h
    unfold MemPort.abandonHost at heq
    rw [← hmem] at heq
    exact heq
  · next h => exact .initEndsHold h

theorem execInit_effect (s : State) : HasEffect s (execInit s) := HasEffect.awake (.of s.abandon_effect)

theorem State.countHostGrant_touched (s : State) (t : BusTxn) : s.countHostGrant.touchedMirrored t = s.touchedMirrored t := by
  rw [State.countHostGrant_frame]
  rfl

theorem State.releaseClaim_of_no_claim {s : State} (h : s.host.claim = false) : s.releaseClaim = s := by
  rw [State.releaseClaim, if_neg (by simp [h])]

theorem State.settlePath_effect {s : State} {t : BusTxn} {b : Block} {bs : List Block} (htxn : s.host.txn = some t)
    (hgrant : s.hostGrantable = true) (hrole : s.role = .primary) (halign : misalignedLineWrite t = false)
    (hb : s.touchedMirrored t = b :: bs) : Effect s ((s.countHostGrant.settlePath t b).forward t) := by
  have hmir : ∀ d ∈ [b], isMirrored s.regions d = true := by
    intro d hd
    rw [List.mem_singleton.mp hd]
    exact State.isMirrored_of_touched_cons hb
  have hhost : s.countHostGrant.host = s.host := by rw [State.countHostGrant_frame]
  have hlink : s.countHostGrant.link = s.link := by rw [State.countHostGrant_frame]
  have hjournal : s.countHostGrant.journal = s.journal := by rw [State.countHostGrant_frame]
  have hline : s.countHostGrant.txnLine t = s.txnLine t := by rw [State.countHostGrant_frame]; rfl
  unfold State.settlePath
  split
  · exact .forwarded t htxn hgrant (.inr (.inl hrole))
  · exact .dirtied t [b] htxn hgrant hrole hmir
  · next hpath =>
    unfold State.writePath at hpath
    split at hpath
    · cases hpath
    · split at hpath
      · cases hpath
      · next hup =>
        split at hpath
        · next htail =>
          have hup' : s.link.state = .up := by simpa [State.linkUp, hlink] using hup
          rw [hjournal, hline] at htail
          rw [hhost]
          exact .merged t _ htxn hgrant hrole hup' htail
        · split at hpath <;> cases hpath
  · next hpath =>
    unfold State.writePath at hpath
    split at hpath
    · cases hpath
    · split at hpath
      · cases hpath
      · next hup =>
        split at hpath
        · cases hpath
        · split at hpath
          · next hclaim =>
            have hup' : s.link.state = .up := by simpa [State.linkUp, hlink] using hup
            rw [hhost] at hclaim ⊢
            rw [hline]
            exact .appended t _ b htxn hgrant hrole hup' hclaim halign (hb ▸ List.mem_cons_self)
          · cases hpath
  · next hpath =>
    have hclaim : s.countHostGrant.host.claim = false := by
      unfold State.writePath at hpath
      split at hpath
      · cases hpath
      · split at hpath
        · cases hpath
        · split at hpath
          · cases hpath
          · split at hpath
            · cases hpath
            · next h => simpa using h
    have heff := Effect.dirtied t [b] htxn hgrant hrole hmir
    rwa [State.releaseClaim_of_no_claim hclaim] at heff

theorem State.settleGrant_effect {s : State} {t : BusTxn} (htxn : s.host.txn = some t) (hgrant : s.hostGrantable = true) :
    Effect s (s.countHostGrant.settleGrant t) := by
  have hrole : s.countHostGrant.role = s.role := by rw [State.countHostGrant_frame]
  unfold State.settleGrant
  simp only [State.countHostGrant_touched]
  split
  · next h => exact .forwarded t htxn hgrant (.inl (hrole ▸ h))
  · next h =>
    split
    · exact .forwarded t htxn hgrant (.inr (.inl (hrole ▸ h)))
    · next b bs hb =>
      split
      · refine .dirtied t (b :: bs) htxn hgrant (hrole ▸ h) fun d hd => ?_
        exact State.isMirrored_of_touched (hb ▸ hd)
      · next halign => exact State.settlePath_effect htxn hgrant (hrole ▸ h) (by simpa using halign) hb
  · next hs hp =>
    split
    · next hnone => exact .forwarded t htxn hgrant (.inr (.inr hnone))
    · refine .grantFenced hgrant ?_
      cases hr : s.role with
      | standalone => exact absurd (hrole.trans hr) hs
      | primary => exact absurd (hrole.trans hr) hp
      | replica => exact .inl rfl
      | promoting => exact .inr rfl

theorem execHostGrant_effect (s : State) : HasEffect s (execHostGrant s) := by
  refine HasEffect.awake ?_
  split
  · next t htxn =>
    split
    · next hgrant => exact .of (State.settleGrant_effect htxn hgrant)
    · exact .unchanged s
  · exact .unchanged s

theorem execHostMemoryCompletion_effect (data : LineBytes) (s : State) : HasEffect s (execHostMemoryCompletion data s) := by
  refine HasEffect.awake ?_
  split
  · next u huse =>
    split
    · next hown =>
      refine .of ?_
      unfold State.completeHost
      split
      · next hbound => exact .hostHeld u huse hown hbound
      · next hbound => exact .hostDone u _ huse hown (by simpa using hbound)
    · next hown => exact .of (.hostDiscarded u huse hown)
    · exact .unchanged s
  · exact .unchanged s

/-- R17: the blocks a timeout marks: those a primary's write touches. -/
theorem State.hostTimeout_eq (t : BusTxn) (s : State) :
    s.hostTimeout t = s.timedOut (if s.role = .primary then s.touchedMirrored t else []) := by
  by_cases h : s.role = .primary
  · rw [if_pos h]
    exact if_pos h
  · rw [if_neg h]
    exact if_neg h

theorem State.hostTimeout_mirrored (s : State) (t : BusTxn) :
    ∀ d ∈ (if s.role = .primary then s.touchedMirrored t else []), isMirrored s.regions d = true := by
  intro d hd
  split at hd
  · exact State.isMirrored_of_touched hd
  · cases hd

theorem execHostMemoryTimeout_effect (s : State) : HasEffect s (execHostMemoryTimeout s) := by
  refine HasEffect.awake ?_
  split
  · next u huse =>
    split
    · next hown =>
      refine .of ?_
      show Effect s (State.hostTimeout u.txn (s.unbind.freePort.answer .fault))
      rw [State.hostTimeout_eq]
      refine .hostTimedOut u _ huse hown ?_
      have hmir := State.hostTimeout_mirrored (s.unbind.freePort.answer .fault) u.txn
      have hregions : s.unbind.regions = s.regions := by rw [State.unbind_frame]
      simpa only [State.answer_regions, State.freePort_regions, hregions] using hmir
    · next hown =>
      refine .of ?_
      rw [State.hostTimeout_eq]
      exact .abandonedTimedOut u _ huse hown (State.hostTimeout_mirrored s.freePort u.txn)
    · exact .unchanged s
  · exact .unchanged s

theorem execSpaceWaitExpiry_effect (s : State) : HasEffect s (execSpaceWaitExpiry s) := by
  refine HasEffect.awake ?_
  split
  · next n hwait hnoted => exact .of (.spaceExpired n hwait hnoted)
  · exact .unchanged s

theorem execSyncHoldExpiry_effect (s : State) : HasEffect s (execSyncHoldExpiry s) := by
  refine HasEffect.awake ?_
  split
  · next hhold => exact .of (.holdExpired hhold)
  · exact .unchanged s

/-! ## The repair sweep -/

theorem execSelection_effect (s : State) : HasEffect s (execSelection s) := by
  refine HasEffect.awake ?_
  split
  · next hscan =>
    split
    · next b hb => exact .of (.selected b hscan hb)
    · exact .unchanged s
  · exact .unchanged s

theorem execSweepGrant_effect (s : State) : HasEffect s (execSweepGrant s) := by
  refine HasEffect.awake ?_
  split
  · next c hc =>
    split
    · next hgrant => exact .of (.sweepGranted c hc hgrant)
    · exact .unchanged s
  · exact .unchanged s

theorem execSweepReadCompletion_effect (data : LineBytes) (s : State) : HasEffect s (execSweepReadCompletion data s) := by
  refine HasEffect.awake ?_
  split
  · next c hc =>
    split
    · next hread =>
      refine .of ?_
      cases hstop : s.sweep.stopPending with
      | true => exact .readStopped c data hc hread hstop
      | false => exact .readAdvanced c data hc hread hstop
    · exact .unchanged s
  · exact .unchanged s

theorem execSweepReadTimeout_effect (s : State) : HasEffect s (execSweepReadTimeout s) := by
  refine HasEffect.awake ?_
  split
  · next hread => exact .of (.readTimedOut hread)
  · exact .unchanged s

theorem execOrphanedRead_effect (s : State) :
    HasEffect s (s.awake (if s.sweepReadInMemory false then .next s.endSweepRead else .next s)) := by
  refine HasEffect.awake ?_
  split
  · next hread => exact .of (.orphanEnded hread)
  · exact .unchanged s

/-! ## The apply engine -/

theorem execApplyGrant_effect (s : State) : HasEffect s (execApplyGrant s) := by
  refine HasEffect.awake ?_
  split
  · next t ts _ =>
    split
    · next hgrant => exact .of (.applyGranted t _ hgrant)
    · exact .unchanged s
  · exact .unchanged s

theorem execApplyCompletion_effect (s : State) : HasEffect s (execApplyCompletion s) := by
  refine HasEffect.awake ?_
  split
  · next h =>
    obtain ⟨huse, happly⟩ := h
    refine .of ?_
    unfold State.completeApply
    split
    · next t n ts _ => exact .applyContinued n ts huse happly
    · exact .applied huse happly
  · exact .unchanged s

theorem execApplyTimeout_effect (s : State) : HasEffect s (execApplyTimeout s) := by
  refine HasEffect.awake ?_
  split
  · next h =>
    obtain ⟨huse, happly⟩ := h
    refine .of ?_
    dsimp only
    split
    · next hrole => exact .promotionFaults huse happly hrole
    · next hrole => exact .applyFaults huse happly hrole
  · exact .unchanged s

/-! ## The timers and the transmitter -/

theorem execRepeatTimerExpiry_effect (s : State) : HasEffect s (execRepeatTimerExpiry s) := by
  refine HasEffect.awake ?_
  split
  · next hrun => exact .of (.repeated hrun)
  · exact .unchanged s

theorem execKeepaliveTimerExpiry_effect (s : State) : HasEffect s (execKeepaliveTimerExpiry s) := by
  refine HasEffect.awake ?_
  split
  · next hrun => exact .of (.kept hrun)
  · exact .unchanged s

theorem execSilenceTimerExpiry_effect (s : State) : HasEffect s (execSilenceTimerExpiry s) := by
  refine HasEffect.awake ?_
  split
  · next l hrun => exact .of (.silent l hrun)
  · exact .unchanged s

theorem execRetransmitTimerExpiry_effect (s : State) : HasEffect s (execRetransmitTimerExpiry s) := by
  refine HasEffect.awake ?_
  split
  · next p hrun =>
    dsimp only
    split
    · exact .of (.resent p hrun)
    · exact .of (.exhausted p hrun)
  · exact .unchanged s

theorem execTransmitFrameEnd_effect (s : State) : HasEffect s (execTransmitFrameEnd s) := by
  refine HasEffect.awake ?_
  split
  · exact .of .frameEnded
  · exact .unchanged s

/-! ## The frames taken -/

/-- A valid frame heard: in UP the silence timer restarts (R88). -/
def State.heard (s : State) : State := if s.linkUp then s.restartSilence else s

theorem State.heard_of_up {s : State} (h : s.link.state = .up) : s.heard = s.restartSilence :=
  if_pos (by simp [State.linkUp, h])

theorem State.heard_of_not_up {s : State} (h : s.link.state ≠ .up) : s.heard = s :=
  if_neg (by simpa [State.linkUp] using h)

theorem State.heard_effect (s : State) : Effect s s.heard := by
  by_cases hl : s.link.state = .up
  · rw [State.heard_of_up hl]
    exact .heard hl
  · rw [State.heard_of_not_up hl]
    exact .unchanged

/-- A received frame is discarded, ignored, or taken by its type (R73, R75, R88). -/
theorem State.receive_effect {s : State} {act : LinkFrame → State → State} (k : FrameType) (bytes : List Byte)
    (h : ∀ f, Effect s (act f s.heard)) : HasEffect s (s.receive k bytes act) := by
  refine HasEffect.awake ?_
  split
  · exact .unchanged s
  · split
    · exact .of (.counters _)
    · next f _ =>
      split
      · exact .of (h f)
      · exact .unchanged s

theorem State.takeHello_effect (s : State) (f : LinkFrame) : Effect s (State.takeHello f s.heard) := by
  cases f with
  | hello h =>
    cases hl : s.link.state with
    | training =>
      rw [State.heard_of_not_up (by simp [hl])]
      simp only [State.takeHello, hl]
      exact .helloTested h hl
    | up =>
      rw [State.heard_of_up hl]
      simp only [State.takeHello, State.restartSilence_link, hl]
      exact .helloInUp h hl
    | off | halted =>
      rw [State.heard_of_not_up (by simp [hl])]
      simp only [State.takeHello, hl]
      exact .unchanged
  | _ => exact s.heard_effect

theorem State.takeStart_effect (s : State) (f : LinkFrame) : Effect s (State.takeStart f s.heard) := by
  cases f with
  | start session mode =>
    by_cases hrole : s.role = .replica
    · cases hl : s.link.state with
      | training =>
        rw [State.heard_of_not_up (by simp [hl])]
        simp only [State.takeStart, hl, hrole, ne_eq, not_true_eq_false, if_false]
        exact .startTested session mode hrole hl
      | up =>
        rw [State.heard_of_up hl]
        simp only [State.takeStart, State.restartSilence_link, State.restartSilence_role, hl, hrole, ne_eq, not_true_eq_false, if_false]
        split
        · exact .startRepeated hrole hl
        · exact .startInUp session mode hrole hl
      | off | halted =>
        rw [State.heard_of_not_up (by simp [hl])]
        simp only [State.takeStart, hl, ite_self]
        exact .unchanged
    · have hrole' : s.heard.role ≠ .replica := by
        unfold State.heard
        split
        · exact hrole
        · exact hrole
      simp only [State.takeStart, if_pos hrole']
      exact s.heard_effect
  | _ => exact s.heard_effect

theorem State.takeReady_effect (s : State) (f : LinkFrame) : Effect s (State.takeReady f s.heard) := by
  unfold State.takeReady
  split
  · split
    · next h =>
      obtain ⟨hrole, htrain, -⟩ := h
      by_cases hl : s.link.state = .up
      · rw [State.heard_of_up hl] at htrain
        simp [hl] at htrain
      · rw [State.heard_of_not_up hl] at hrole htrain ⊢
        exact .ready hrole htrain
    · exact s.heard_effect
  · exact s.heard_effect

theorem State.takeData_effect (s : State) (f : LinkFrame) : Effect s (State.takeData f s.heard) := by
  unfold State.takeData
  split
  · next seq payload =>
    split
    · next h =>
      obtain ⟨hrole, hlive⟩ := h
      by_cases hl : s.link.state = .up
      · rw [State.heard_of_up hl] at hrole ⊢
        exact .dataTaken ⟨seq, payload⟩ hrole hl
      · rw [State.heard_of_not_up hl] at hlive
        exact absurd (by simpa [State.linkUp] using hlive) hl
    · exact s.heard_effect
  · exact s.heard_effect

/-- An active sender is a primary whose link is UP (R99). -/
theorem State.senderActive_iff (s : State) : s.senderActive = true ↔ s.role = .primary ∧ s.link.state = .up := by
  simp [State.senderActive, State.linkUp]

theorem State.takeAck_effect (s : State) (f : LinkFrame) : Effect s (State.takeAck f s.heard) := by
  unfold State.takeAck
  split
  · next a =>
    split
    · next h =>
      obtain ⟨hactive, hd⟩ := h
      by_cases hl : s.link.state = .up
      · rw [State.heard_of_up hl] at hactive hd ⊢
        exact .acked _ ((State.senderActive_iff _).mp hactive).1 hl hd
      · rw [State.heard_of_not_up hl] at hactive
        exact absurd ((State.senderActive_iff _).mp hactive).2 hl
    · exact s.heard_effect
  · exact s.heard_effect

theorem State.takeNak_effect (s : State) (f : LinkFrame) : Effect s (State.takeNak f s.heard) := by
  unfold State.takeNak
  split
  · next e =>
    split
    · next hactive =>
      by_cases hl : s.link.state = .up
      · rw [State.heard_of_up hl] at hactive ⊢
        dsimp only
        split
        · next hd => exact .naked _ ((State.senderActive_iff _).mp hactive).1 hl hd
        · exact .nakCounted hl
      · rw [State.heard_of_not_up hl] at hactive
        exact absurd ((State.senderActive_iff _).mp hactive).2 hl
    · exact s.heard_effect
  · exact s.heard_effect

theorem State.takeHalt_effect (s : State) (f : LinkFrame) : Effect s (State.takeHalt f s.heard) := by
  unfold State.takeHalt
  split
  · next r =>
    split
    · next hlive =>
      by_cases hl : s.link.state = .up
      · rw [State.heard_of_up hl]
        exact .halted r hl
      · rw [State.heard_of_not_up hl] at hlive
        exact absurd (by simpa [State.linkUp] using hlive) hl
    · exact s.heard_effect
  · exact s.heard_effect

theorem execTruncatedFrame_effect (bytes : List Byte) (symbol : TruncatingSymbol) (s : State) :
    HasEffect s (execTruncatedFrame bytes symbol s) := by
  refine HasEffect.awake ?_
  split
  · exact .unchanged s
  · exact .of (.counters _)

/-! ## The management commands -/

theorem readRegionAct_effect (index : Byte) (s : State) : Effect s (readRegionAct index s).state := by
  unfold readRegionAct
  split <;> exact .unchanged

theorem writeRegionAct_effect (index valid mode policy : Byte) (pattern care : BitVec 16) (s : State) :
    Effect s (writeRegionAct index valid mode policy pattern care s).state := by
  unfold writeRegionAct
  split
  · exact .unchanged
  · split
    · split
      · exact .unchanged
      · next hrole => exact .regionWritten _ _ (Classical.not_not.mp hrole)
    · exact .unchanged

theorem readParamAct_effect (ident : Byte) (s : State) : Effect s (readParamAct ident s).state := by
  unfold readParamAct
  split <;> exact .unchanged

theorem writeParamAct_effect (ident : Byte) (value : BitVec 32) (s : State) : Effect s (writeParamAct ident value s).state := by
  unfold writeParamAct
  split
  · exact .unchanged
  · next p _ =>
    split
    · exact .unchanged
    · next hrange =>
      split
      · exact .unchanged
      · split
        · exact .unchanged
        · next hrole => exact .paramWritten p value (by simpa using hrange) (by simpa using hrole)

theorem setRoleAct_effect (target : Byte) (s : State) : Effect s (setRoleAct target s).state := by
  unfold setRoleAct
  split
  · unfold setRoleTo
    split
    · exact .unchanged
    · next hrole _ => exact .becamePrimary hrole
    · next hrole _ =>
      split
      · exact .unchanged
      · next hfree => exact .becameReplica hrole (by simpa using hfree)
    · next hrole _ => exact .leftPrimary hrole
    · exact .unchanged
    · exact .unchanged
    · exact .unchanged
  · exact .unchanged

theorem startRepairAct_effect (s : State) : Effect s (startRepairAct s).state := by
  unfold startRepairAct
  split
  · exact .unchanged
  · next hrole =>
    split
    · exact .unchanged
    · next hup => exact .repairStarted (Classical.not_not.mp hrole) (by simpa [State.linkUp] using hup)

theorem stopRepairAct_effect (s : State) : Effect s (stopRepairAct s).state := by
  unfold stopRepairAct
  split
  · exact .unchanged
  · next hrole => exact .repairStopped (Classical.not_not.mp hrole)

theorem placeMarkerAct_effect (tag : Tag) (s : State) : Effect s (placeMarkerAct tag s).state := by
  unfold placeMarkerAct
  split
  · exact .unchanged
  · next hrole =>
    split
    · exact .unchanged
    · next hpair =>
      split
      · exact .unchanged
      · next hroom =>
        split
        · exact .unchanged
        · next hslot =>
          exact .markerPlaced tag (Classical.not_not.mp hrole) (Classical.not_not.mp hpair) (Nat.lt_of_not_le hroom) (Nat.le_of_not_lt hslot)

theorem relinkAct_effect (s : State) : Effect s (relinkAct s).state := by
  unfold relinkAct
  split
  · next hhalt => exact .relinked hhalt
  · exact .unchanged

theorem promoteAct_effect (s : State) : Effect s (promoteAct s).state := by
  unfold promoteAct
  split
  · next hrole => exact .promoted hrole
  · exact .unchanged

theorem clearFaultAct_effect (s : State) : Effect s (clearFaultAct s).state := by
  unfold clearFaultAct
  split
  · next hfault => exact .faultCleared hfault
  · exact .unchanged

theorem ackAlertsAct_effect (mask : BitVec 16) (s : State) : Effect s (ackAlertsAct mask s).state := by
  unfold ackAlertsAct
  split
  · exact .unchanged
  · exact .alertsAcked mask

theorem setAlertEnablesAct_effect (mask : BitVec 16) (s : State) : Effect s (setAlertEnablesAct mask s).state := by
  unfold setAlertEnablesAct
  split
  · exact .unchanged
  · exact .alertsEnabled _

theorem readCountersAct_effect (first number clear : Byte) (s : State) : Effect s (readCountersAct first number clear s).state := by
  unfold readCountersAct
  split
  · exact .unchanged
  · unfold answerWith
    dsimp only
    split
    · exact .counters _
    · exact .unchanged

theorem execUnknownCommand_effect (code : Byte) (s : State) : HasEffect s (execUnknownCommand code s) := by
  unfold execUnknownCommand
  split
  · exact .unchanged s
  · exact .takeCommand .unchanged _ _

theorem execShortFrame_effect (bytes : List Byte) (s : State) : HasEffect s (execShortFrame bytes s) := by
  refine HasEffect.awake ?_
  split
  · exact .unchanged s
  · exact .port s _
  · exact .port s _
  · exact .port s _
  · exact .unchanged s

theorem execFrameEnd_effect (s : State) : HasEffect s (execFrameEnd s) := by
  refine HasEffect.awake ?_
  split
  · exact .unchanged s
  · exact .unchanged s
  · exact .unchanged s
  · exact .port s _

theorem execPowerOnReset_effect (cause : ResetCause) (s : State) : HasEffect s (execPowerOnReset cause s) := by
  unfold execPowerOnReset
  split
  · exact .of (.powerOnReset s.freeIndex)
  · split
    · exact .of (.powerOnReset s.freeIndex)
    · dsimp only
      split
      · exact .of (.powerOnReset (s.freeIndex + 1))
      · exact .of (.ownFields (s.freeIndex + 1) s.inReset)

theorem execResetRelease_effect (mselLow : Bool) (s : State) : HasEffect s (execResetRelease mselLow s) := by
  unfold execResetRelease
  split
  · exact ⟨_, _, .ownFields s.freeIndex false, rfl⟩
  · exact .unchanged s

/-! ## Every command -/

theorem exec_effect (c : Instr) (s : State) : HasEffect s (exec c s) := by
  cases c with
  | arrival t => exact execArrival_effect t s
  | init => exact execInit_effect s
  | hostGrant => exact execHostGrant_effect s
  | sweepGrant => exact execSweepGrant_effect s
  | applyGrant => exact execApplyGrant_effect s
  | hostMemoryCompletion data => exact execHostMemoryCompletion_effect data s
  | hostMemoryTimeout => exact execHostMemoryTimeout_effect s
  | sweepReadCompletion data => exact execSweepReadCompletion_effect data s
  | sweepReadTimeout => exact execSweepReadTimeout_effect s
  | orphanedReadCompletion | orphanedReadTimeout => exact execOrphanedRead_effect s
  | abandonedTransactionAnswer => exact .unchanged s
  | applyCompletion => exact execApplyCompletion_effect s
  | applyTimeout => exact execApplyTimeout_effect s
  | spaceWaitExpiry => exact execSpaceWaitExpiry_effect s
  | syncHoldExpiry => exact execSyncHoldExpiry_effect s
  | selection => exact execSelection_effect s
  | repeatTimerExpiry => exact execRepeatTimerExpiry_effect s
  | keepaliveTimerExpiry => exact execKeepaliveTimerExpiry_effect s
  | silenceTimerExpiry => exact execSilenceTimerExpiry_effect s
  | retransmitTimerExpiry => exact execRetransmitTimerExpiry_effect s
  | transmitFrameEnd => exact execTransmitFrameEnd_effect s
  | receiveHello bytes => exact State.receive_effect _ bytes s.takeHello_effect
  | receiveStart bytes => exact State.receive_effect _ bytes s.takeStart_effect
  | receiveReady bytes => exact State.receive_effect _ bytes s.takeReady_effect
  | receiveData bytes => exact State.receive_effect _ bytes s.takeData_effect
  | receiveAck bytes => exact State.receive_effect _ bytes s.takeAck_effect
  | receiveNak bytes => exact State.receive_effect _ bytes s.takeNak_effect
  | receiveIdle bytes => exact State.receive_effect (act := fun _ s => s) _ bytes fun _ => s.heard_effect
  | receiveHalt bytes => exact State.receive_effect _ bytes s.takeHalt_effect
  | truncatedFrame bytes symbol => exact execTruncatedFrame_effect bytes symbol s
  | status => exact .takeCommand .unchanged _ _
  | readRegion index => exact .takeCommand (readRegionAct_effect index s) _ _
  | writeRegion index valid mode policy pattern care =>
    exact .takeCommand (writeRegionAct_effect index valid mode policy pattern care s) _ _
  | readParam ident => exact .takeCommand (readParamAct_effect ident s) _ _
  | writeParam ident value => exact .takeCommand (writeParamAct_effect ident value s) _ _
  | setRole target => exact .takeCommand (setRoleAct_effect target s) _ _
  | startRepair => exact .takeCommand (startRepairAct_effect s) _ _
  | stopRepair => exact .takeCommand (stopRepairAct_effect s) _ _
  | placeMarker tag => exact .takeCommand (placeMarkerAct_effect tag s) _ _
  | readMarkers => exact .takeCommand .markersRead _ _
  | relink => exact .takeCommand (relinkAct_effect s) _ _
  | promote => exact .takeCommand (promoteAct_effect s) _ _
  | clearFault => exact .takeCommand (clearFaultAct_effect s) _ _
  | readAlerts => exact .takeCommand .alertsRead _ _
  | ackAlerts mask => exact .takeCommand (ackAlertsAct_effect mask s) _ _
  | setAlertEnables mask => exact .takeCommand (setAlertEnablesAct_effect mask s) _ _
  | readCounters first number clear => exact .takeCommand (readCountersAct_effect first number clear s) _ _
  | resetPart => exact .takeCommand (act := fun s => accept s.softReset) .softReset _ _
  | unknownCommand code => exact execUnknownCommand_effect code s
  | shortFrame bytes => exact execShortFrame_effect bytes s
  | powerOnReset cause => exact execPowerOnReset_effect cause s
  | frameEnd => exact execFrameEnd_effect s
  | resetRelease mselLow => exact execResetRelease_effect mselLow s

theorem exec_isNext (c : Instr) (s : State) : ∃ t, exec c s = .next t := by
  obtain ⟨u, m, -, h⟩ := exec_effect c s
  exact ⟨_, h⟩

/-- An event on the lines or a command on a part in which only the lines moved gives a next state. -/
theorem LineResult.isNext {s : State} {r : Result} (h : LineResult s r) : ∃ t, r = .next t := by
  obtain ⟨m, w, rfl⟩ | ⟨c, m, w, rfl⟩ := h
  · exact ⟨_, rfl⟩
  · exact exec_isNext c _

/-- Settles O4: every command has one of the effects, and a step is a command, an event on the lines or nothing. -/
theorem everyCommandHasANextState : Obligations.EveryCommandHasANextState := by
  refine ⟨exec_isNext, fun s => ?_⟩
  obtain ⟨c, rest, -, h⟩ | ⟨rest, -, h⟩ | h := step_cases s
  · exact h ▸ exec_isNext c _
  · exact h.isNext
  · exact ⟨s, h⟩

/-- Settles O1: the three cases of `step`. -/
theorem stepRunsTheFrontCommand : Obligations.StepRunsTheFrontCommand :=
  ⟨fun _ _ _ h => step_command h, fun _ _ _ h hl => step_line h hl, fun _ h hl => step_idle h hl⟩

/-! ## A law kept by every effect is kept by every step -/

/-- What is said of the part does not depend on the model's own queues nor on the frames on the lines. -/
def LineFree (P : State → Prop) : Prop :=
  ∀ (s : State) (pending : List Instr) (lines : List LineEvent) (m : Mgmt) (w : Wire),
    P s → P { s with pending := pending, lines := lines, mgmt := m, wire := w }

theorem step_keeps {Q P : State → Prop} (hQ : LineFree Q) (hP : LineFree P) (hkeeps : ∀ s t, Effect s t → Q s → P t) {s t : State}
    (h : Q s) (hstep : step s = .next t) : P t := by
  have hexec : ∀ (u : State) (c : Instr), Q u → exec c u = .next t → P t := by
    intro u c hu hc
    obtain ⟨v, m, heff, hnext⟩ := exec_effect c u
    obtain rfl : { v with mgmt := m } = t := by simpa [hnext] using hc
    exact hP v v.pending v.lines m v.wire (hkeeps u v heff hu)
  obtain ⟨c, rest, -, hc⟩ | ⟨rest, -, hline⟩ | hidle := step_cases s
  · exact hexec _ c (hQ s rest s.lines s.mgmt s.wire h) (hc ▸ hstep)
  · obtain ⟨m, w, hr⟩ | ⟨c, m, w, hr⟩ := hline
    · obtain rfl : { s with lines := rest, mgmt := m, wire := w } = t := by simpa [hr] using hstep
      exact hP s s.pending rest m w (hkeeps s s .unchanged h)
    · exact hexec _ c (hQ s s.pending rest m w h) (hr ▸ hstep)
  · obtain rfl : s = t := by simpa [hidle] using hstep
    exact hkeeps s s .unchanged h

end Sys2Proof.Machine

/-! PROOF. The fields that the operations of one command leave alone, as simp lemmas, beside those of the shared operations. -/

namespace Sys2Proof.Machine

open Sys2Proof

set_option Elab.async false

theorem State.select_frame (b : Block) (s : State) : s.select b = { s with map := (s.select b).map, sweep := (s.select b).sweep } := by
  unfold State.select
  rw [State.reserveTest_frame]

theorem State.readFilled_frame (data : LineBytes) (s : State) :
    s.readFilled data =
      { s with mem := (s.readFilled data).mem, journal := (s.readFilled data).journal, sweep := (s.readFilled data).sweep } := rfl

theorem State.beginSweepRead_frame (c : Copy) (s : State) :
    s.beginSweepRead c =
      { s with mem := (s.beginSweepRead c).mem, journal := (s.beginSweepRead c).journal, sweep := (s.beginSweepRead c).sweep,
               alert := (s.beginSweepRead c).alert } := by
  rw [State.beginSweepRead_eq, State.waterTest_frame]

theorem State.timedOut_frame (ds : List Block) (s : State) :
    s.timedOut ds =
      { s with counters := (s.bump .memoryTimeouts).counters, map := (s.timedOut ds).map, sweep := (s.timedOut ds).sweep,
               pair := (s.timedOut ds).pair, alert := (s.timedOut ds).alert } := by
  unfold State.timedOut
  rw [State.markDirty_frame]
  rfl

theorem State.rewoundForRetry_frame (s : State) :
    s.rewoundForRetry = { s with journal := s.rewoundForRetry.journal, sender := s.rewoundForRetry.sender } := rfl

theorem State.applyFaulted_frame (s : State) :
    s.applyFaulted =
      { s with mem := s.applyFaulted.mem, apply := s.applyFaulted.apply, link := s.applyFaulted.link, alert := s.applyFaulted.alert } := rfl

/-- A departure from UP is a session end on a primary, and elsewhere the change of link state alone (R93, R94). -/
theorem State.departUp_frame (dest : LinkState) (s : State) :
    s.departUp dest =
      { s with link := (s.setLink dest).link, journal := (s.departUp dest).journal, sender := (s.departUp dest).sender,
               map := (s.departUp dest).map, sweep := (s.departUp dest).sweep, host := (s.departUp dest).host,
               pair := (s.departUp dest).pair, alert := (s.departUp dest).alert,
               mem := { s.mem with sweepWait := (s.departUp dest).mem.sweepWait } } := by
  simp only [State.departUp]
  split
  · rw [State.sessionEnd_frame]
    rfl
  · rfl

theorem State.loseLink_frame (s : State) :
    s.loseLink =
      { s with link := s.loseLink.link, journal := s.loseLink.journal, sender := s.loseLink.sender, map := s.loseLink.map,
               sweep := s.loseLink.sweep, host := s.loseLink.host, pair := s.loseLink.pair, alert := s.loseLink.alert,
               mem := { s.mem with sweepWait := s.loseLink.mem.sweepWait } } := by
  unfold State.loseLink
  rw [State.departUp_frame]
  rfl

theorem State.localHalt_frame_any (r : HaltReason) (s : State) :
    s.localHalt r =
      { s with link := (s.localHalt r).link, journal := (s.localHalt r).journal, sender := (s.localHalt r).sender,
               map := (s.localHalt r).map, sweep := (s.localHalt r).sweep, host := (s.localHalt r).host, pair := (s.localHalt r).pair,
               alert := (s.localHalt r).alert, mem := { s.mem with sweepWait := (s.localHalt r).mem.sweepWait } } := by
  unfold State.localHalt
  split
  · rw [State.departUp_frame]
    rfl
  · rfl
  · rfl

theorem State.haltReceived_frame (r : HaltReason) (s : State) :
    s.haltReceived r =
      { s with link := (s.haltReceived r).link, journal := (s.haltReceived r).journal, sender := (s.haltReceived r).sender,
               map := (s.haltReceived r).map, sweep := (s.haltReceived r).sweep, host := (s.haltReceived r).host,
               pair := (s.haltReceived r).pair, alert := (s.haltReceived r).alert,
               mem := { s.mem with sweepWait := (s.haltReceived r).mem.sweepWait } } := by
  unfold State.haltReceived
  rw [State.departUp_frame]
  rfl

@[simp] theorem State.countHostGrant_role (s : State) : s.countHostGrant.role = s.role := by rw [State.countHostGrant_frame]
@[simp] theorem State.countHostGrant_regions (s : State) : s.countHostGrant.regions = s.regions := by rw [State.countHostGrant_frame]
@[simp] theorem State.countHostGrant_params (s : State) : s.countHostGrant.params = s.params := by rw [State.countHostGrant_frame]
@[simp] theorem State.countHostGrant_host (s : State) : s.countHostGrant.host = s.host := by rw [State.countHostGrant_frame]
@[simp] theorem State.countHostGrant_journal (s : State) : s.countHostGrant.journal = s.journal := by rw [State.countHostGrant_frame]
@[simp] theorem State.countHostGrant_map (s : State) : s.countHostGrant.map = s.map := by rw [State.countHostGrant_frame]
@[simp] theorem State.countHostGrant_sweep (s : State) : s.countHostGrant.sweep = s.sweep := by rw [State.countHostGrant_frame]
@[simp] theorem State.countHostGrant_link (s : State) : s.countHostGrant.link = s.link := by rw [State.countHostGrant_frame]
@[simp] theorem State.countHostGrant_sender (s : State) : s.countHostGrant.sender = s.sender := by rw [State.countHostGrant_frame]
@[simp] theorem State.countHostGrant_receiver (s : State) : s.countHostGrant.receiver = s.receiver := by rw [State.countHostGrant_frame]
@[simp] theorem State.countHostGrant_apply (s : State) : s.countHostGrant.apply = s.apply := by rw [State.countHostGrant_frame]
@[simp] theorem State.countHostGrant_pair (s : State) : s.countHostGrant.pair = s.pair := by rw [State.countHostGrant_frame]
@[simp] theorem State.countHostGrant_alert (s : State) : s.countHostGrant.alert = s.alert := by rw [State.countHostGrant_frame]

@[simp] theorem State.unbind_role (s : State) : s.unbind.role = s.role := by rw [State.unbind_frame]
@[simp] theorem State.unbind_regions (s : State) : s.unbind.regions = s.regions := by rw [State.unbind_frame]
@[simp] theorem State.unbind_params (s : State) : s.unbind.params = s.params := by rw [State.unbind_frame]
@[simp] theorem State.unbind_host (s : State) : s.unbind.host = s.host := by rw [State.unbind_frame]
@[simp] theorem State.unbind_mem (s : State) : s.unbind.mem = s.mem := by rw [State.unbind_frame]
@[simp] theorem State.unbind_map (s : State) : s.unbind.map = s.map := by rw [State.unbind_frame]
@[simp] theorem State.unbind_sweep (s : State) : s.unbind.sweep = s.sweep := by rw [State.unbind_frame]
@[simp] theorem State.unbind_link (s : State) : s.unbind.link = s.link := by rw [State.unbind_frame]
@[simp] theorem State.unbind_sender (s : State) : s.unbind.sender = s.sender := by rw [State.unbind_frame]
@[simp] theorem State.unbind_receiver (s : State) : s.unbind.receiver = s.receiver := by rw [State.unbind_frame]
@[simp] theorem State.unbind_apply (s : State) : s.unbind.apply = s.apply := by rw [State.unbind_frame]
@[simp] theorem State.unbind_pair (s : State) : s.unbind.pair = s.pair := by rw [State.unbind_frame]
@[simp] theorem State.unbind_alert (s : State) : s.unbind.alert = s.alert := by rw [State.unbind_frame]

@[simp] theorem State.reserveTest_role (s : State) : s.reserveTest.role = s.role := by rw [State.reserveTest_frame]
@[simp] theorem State.reserveTest_regions (s : State) : s.reserveTest.regions = s.regions := by rw [State.reserveTest_frame]
@[simp] theorem State.reserveTest_params (s : State) : s.reserveTest.params = s.params := by rw [State.reserveTest_frame]
@[simp] theorem State.reserveTest_host (s : State) : s.reserveTest.host = s.host := by rw [State.reserveTest_frame]
@[simp] theorem State.reserveTest_mem (s : State) : s.reserveTest.mem = s.mem := by rw [State.reserveTest_frame]
@[simp] theorem State.reserveTest_journal (s : State) : s.reserveTest.journal = s.journal := by rw [State.reserveTest_frame]
@[simp] theorem State.reserveTest_map (s : State) : s.reserveTest.map = s.map := by rw [State.reserveTest_frame]
@[simp] theorem State.reserveTest_link (s : State) : s.reserveTest.link = s.link := by rw [State.reserveTest_frame]
@[simp] theorem State.reserveTest_sender (s : State) : s.reserveTest.sender = s.sender := by rw [State.reserveTest_frame]
@[simp] theorem State.reserveTest_receiver (s : State) : s.reserveTest.receiver = s.receiver := by rw [State.reserveTest_frame]
@[simp] theorem State.reserveTest_apply (s : State) : s.reserveTest.apply = s.apply := by rw [State.reserveTest_frame]
@[simp] theorem State.reserveTest_pair (s : State) : s.reserveTest.pair = s.pair := by rw [State.reserveTest_frame]
@[simp] theorem State.reserveTest_alert (s : State) : s.reserveTest.alert = s.alert := by rw [State.reserveTest_frame]

@[simp] theorem State.select_role (b : Block) (s : State) : (s.select b).role = s.role := by rw [State.select_frame]
@[simp] theorem State.select_regions (b : Block) (s : State) : (s.select b).regions = s.regions := by rw [State.select_frame]
@[simp] theorem State.select_params (b : Block) (s : State) : (s.select b).params = s.params := by rw [State.select_frame]
@[simp] theorem State.select_host (b : Block) (s : State) : (s.select b).host = s.host := by rw [State.select_frame]
@[simp] theorem State.select_mem (b : Block) (s : State) : (s.select b).mem = s.mem := by rw [State.select_frame]
@[simp] theorem State.select_journal (b : Block) (s : State) : (s.select b).journal = s.journal := by rw [State.select_frame]
@[simp] theorem State.select_link (b : Block) (s : State) : (s.select b).link = s.link := by rw [State.select_frame]
@[simp] theorem State.select_sender (b : Block) (s : State) : (s.select b).sender = s.sender := by rw [State.select_frame]
@[simp] theorem State.select_receiver (b : Block) (s : State) : (s.select b).receiver = s.receiver := by rw [State.select_frame]
@[simp] theorem State.select_apply (b : Block) (s : State) : (s.select b).apply = s.apply := by rw [State.select_frame]
@[simp] theorem State.select_pair (b : Block) (s : State) : (s.select b).pair = s.pair := by rw [State.select_frame]
@[simp] theorem State.select_alert (b : Block) (s : State) : (s.select b).alert = s.alert := by rw [State.select_frame]

@[simp] theorem State.advanceCopy_role (c : Copy) (s : State) : (s.advanceCopy c).role = s.role := by rw [State.advanceCopy_frame]
@[simp] theorem State.advanceCopy_regions (c : Copy) (s : State) : (s.advanceCopy c).regions = s.regions := by rw [State.advanceCopy_frame]
@[simp] theorem State.advanceCopy_params (c : Copy) (s : State) : (s.advanceCopy c).params = s.params := by rw [State.advanceCopy_frame]
@[simp] theorem State.advanceCopy_host (c : Copy) (s : State) : (s.advanceCopy c).host = s.host := by rw [State.advanceCopy_frame]
@[simp] theorem State.advanceCopy_mem (c : Copy) (s : State) : (s.advanceCopy c).mem = s.mem := by rw [State.advanceCopy_frame]
@[simp] theorem State.advanceCopy_journal (c : Copy) (s : State) : (s.advanceCopy c).journal = s.journal := by rw [State.advanceCopy_frame]
@[simp] theorem State.advanceCopy_map (c : Copy) (s : State) : (s.advanceCopy c).map = s.map := by rw [State.advanceCopy_frame]
@[simp] theorem State.advanceCopy_link (c : Copy) (s : State) : (s.advanceCopy c).link = s.link := by rw [State.advanceCopy_frame]
@[simp] theorem State.advanceCopy_sender (c : Copy) (s : State) : (s.advanceCopy c).sender = s.sender := by rw [State.advanceCopy_frame]
@[simp] theorem State.advanceCopy_receiver (c : Copy) (s : State) : (s.advanceCopy c).receiver = s.receiver := by rw [State.advanceCopy_frame]
@[simp] theorem State.advanceCopy_apply (c : Copy) (s : State) : (s.advanceCopy c).apply = s.apply := by rw [State.advanceCopy_frame]
@[simp] theorem State.advanceCopy_pair (c : Copy) (s : State) : (s.advanceCopy c).pair = s.pair := by rw [State.advanceCopy_frame]
@[simp] theorem State.advanceCopy_alert (c : Copy) (s : State) : (s.advanceCopy c).alert = s.alert := by rw [State.advanceCopy_frame]

@[simp] theorem State.stopCopy_role (s : State) : s.stopCopy.role = s.role := by rw [State.stopCopy_frame]
@[simp] theorem State.stopCopy_regions (s : State) : s.stopCopy.regions = s.regions := by rw [State.stopCopy_frame]
@[simp] theorem State.stopCopy_params (s : State) : s.stopCopy.params = s.params := by rw [State.stopCopy_frame]
@[simp] theorem State.stopCopy_host (s : State) : s.stopCopy.host = s.host := by rw [State.stopCopy_frame]
@[simp] theorem State.stopCopy_mem (s : State) : s.stopCopy.mem = s.mem := by rw [State.stopCopy_frame]
@[simp] theorem State.stopCopy_journal (s : State) : s.stopCopy.journal = s.journal := by rw [State.stopCopy_frame]
@[simp] theorem State.stopCopy_link (s : State) : s.stopCopy.link = s.link := by rw [State.stopCopy_frame]
@[simp] theorem State.stopCopy_sender (s : State) : s.stopCopy.sender = s.sender := by rw [State.stopCopy_frame]
@[simp] theorem State.stopCopy_receiver (s : State) : s.stopCopy.receiver = s.receiver := by rw [State.stopCopy_frame]
@[simp] theorem State.stopCopy_apply (s : State) : s.stopCopy.apply = s.apply := by rw [State.stopCopy_frame]
@[simp] theorem State.stopCopy_pair (s : State) : s.stopCopy.pair = s.pair := by rw [State.stopCopy_frame]
@[simp] theorem State.stopCopy_alert (s : State) : s.stopCopy.alert = s.alert := by rw [State.stopCopy_frame]

@[simp] theorem State.afterReadTimeout_role (stop : Bool) (s : State) : (s.afterReadTimeout stop).role = s.role := by rw [State.afterReadTimeout_frame]
@[simp] theorem State.afterReadTimeout_regions (stop : Bool) (s : State) : (s.afterReadTimeout stop).regions = s.regions := by rw [State.afterReadTimeout_frame]
@[simp] theorem State.afterReadTimeout_params (stop : Bool) (s : State) : (s.afterReadTimeout stop).params = s.params := by rw [State.afterReadTimeout_frame]
@[simp] theorem State.afterReadTimeout_host (stop : Bool) (s : State) : (s.afterReadTimeout stop).host = s.host := by rw [State.afterReadTimeout_frame]
@[simp] theorem State.afterReadTimeout_mem (stop : Bool) (s : State) : (s.afterReadTimeout stop).mem = s.mem := by rw [State.afterReadTimeout_frame]
@[simp] theorem State.afterReadTimeout_journal (stop : Bool) (s : State) : (s.afterReadTimeout stop).journal = s.journal := by rw [State.afterReadTimeout_frame]
@[simp] theorem State.afterReadTimeout_map (stop : Bool) (s : State) : (s.afterReadTimeout stop).map = s.map := by rw [State.afterReadTimeout_frame]
@[simp] theorem State.afterReadTimeout_link (stop : Bool) (s : State) : (s.afterReadTimeout stop).link = s.link := by rw [State.afterReadTimeout_frame]
@[simp] theorem State.afterReadTimeout_sender (stop : Bool) (s : State) : (s.afterReadTimeout stop).sender = s.sender := by rw [State.afterReadTimeout_frame]
@[simp] theorem State.afterReadTimeout_receiver (stop : Bool) (s : State) : (s.afterReadTimeout stop).receiver = s.receiver := by rw [State.afterReadTimeout_frame]
@[simp] theorem State.afterReadTimeout_apply (stop : Bool) (s : State) : (s.afterReadTimeout stop).apply = s.apply := by rw [State.afterReadTimeout_frame]
@[simp] theorem State.afterReadTimeout_pair (stop : Bool) (s : State) : (s.afterReadTimeout stop).pair = s.pair := by rw [State.afterReadTimeout_frame]

@[simp] theorem State.readFilled_role (data : LineBytes) (s : State) : (s.readFilled data).role = s.role := by rw [State.readFilled_frame]
@[simp] theorem State.readFilled_regions (data : LineBytes) (s : State) : (s.readFilled data).regions = s.regions := by rw [State.readFilled_frame]
@[simp] theorem State.readFilled_params (data : LineBytes) (s : State) : (s.readFilled data).params = s.params := by rw [State.readFilled_frame]
@[simp] theorem State.readFilled_host (data : LineBytes) (s : State) : (s.readFilled data).host = s.host := by rw [State.readFilled_frame]
@[simp] theorem State.readFilled_map (data : LineBytes) (s : State) : (s.readFilled data).map = s.map := by rw [State.readFilled_frame]
@[simp] theorem State.readFilled_link (data : LineBytes) (s : State) : (s.readFilled data).link = s.link := by rw [State.readFilled_frame]
@[simp] theorem State.readFilled_sender (data : LineBytes) (s : State) : (s.readFilled data).sender = s.sender := by rw [State.readFilled_frame]
@[simp] theorem State.readFilled_receiver (data : LineBytes) (s : State) : (s.readFilled data).receiver = s.receiver := by rw [State.readFilled_frame]
@[simp] theorem State.readFilled_apply (data : LineBytes) (s : State) : (s.readFilled data).apply = s.apply := by rw [State.readFilled_frame]
@[simp] theorem State.readFilled_pair (data : LineBytes) (s : State) : (s.readFilled data).pair = s.pair := by rw [State.readFilled_frame]
@[simp] theorem State.readFilled_alert (data : LineBytes) (s : State) : (s.readFilled data).alert = s.alert := by rw [State.readFilled_frame]

@[simp] theorem State.beginSweepRead_role (c : Copy) (s : State) : (s.beginSweepRead c).role = s.role := by rw [State.beginSweepRead_frame]
@[simp] theorem State.beginSweepRead_regions (c : Copy) (s : State) : (s.beginSweepRead c).regions = s.regions := by rw [State.beginSweepRead_frame]
@[simp] theorem State.beginSweepRead_params (c : Copy) (s : State) : (s.beginSweepRead c).params = s.params := by rw [State.beginSweepRead_frame]
@[simp] theorem State.beginSweepRead_host (c : Copy) (s : State) : (s.beginSweepRead c).host = s.host := by rw [State.beginSweepRead_frame]
@[simp] theorem State.beginSweepRead_map (c : Copy) (s : State) : (s.beginSweepRead c).map = s.map := by rw [State.beginSweepRead_frame]
@[simp] theorem State.beginSweepRead_link (c : Copy) (s : State) : (s.beginSweepRead c).link = s.link := by rw [State.beginSweepRead_frame]
@[simp] theorem State.beginSweepRead_sender (c : Copy) (s : State) : (s.beginSweepRead c).sender = s.sender := by rw [State.beginSweepRead_frame]
@[simp] theorem State.beginSweepRead_receiver (c : Copy) (s : State) : (s.beginSweepRead c).receiver = s.receiver := by rw [State.beginSweepRead_frame]
@[simp] theorem State.beginSweepRead_apply (c : Copy) (s : State) : (s.beginSweepRead c).apply = s.apply := by rw [State.beginSweepRead_frame]
@[simp] theorem State.beginSweepRead_pair (c : Copy) (s : State) : (s.beginSweepRead c).pair = s.pair := by rw [State.beginSweepRead_frame]

@[simp] theorem State.sweepLinkUp_role (s : State) : s.sweepLinkUp.role = s.role := by rw [State.sweepLinkUp_frame]
@[simp] theorem State.sweepLinkUp_regions (s : State) : s.sweepLinkUp.regions = s.regions := by rw [State.sweepLinkUp_frame]
@[simp] theorem State.sweepLinkUp_params (s : State) : s.sweepLinkUp.params = s.params := by rw [State.sweepLinkUp_frame]
@[simp] theorem State.sweepLinkUp_host (s : State) : s.sweepLinkUp.host = s.host := by rw [State.sweepLinkUp_frame]
@[simp] theorem State.sweepLinkUp_mem (s : State) : s.sweepLinkUp.mem = s.mem := by rw [State.sweepLinkUp_frame]
@[simp] theorem State.sweepLinkUp_journal (s : State) : s.sweepLinkUp.journal = s.journal := by rw [State.sweepLinkUp_frame]
@[simp] theorem State.sweepLinkUp_map (s : State) : s.sweepLinkUp.map = s.map := by rw [State.sweepLinkUp_frame]
@[simp] theorem State.sweepLinkUp_link (s : State) : s.sweepLinkUp.link = s.link := by rw [State.sweepLinkUp_frame]
@[simp] theorem State.sweepLinkUp_sender (s : State) : s.sweepLinkUp.sender = s.sender := by rw [State.sweepLinkUp_frame]
@[simp] theorem State.sweepLinkUp_receiver (s : State) : s.sweepLinkUp.receiver = s.receiver := by rw [State.sweepLinkUp_frame]
@[simp] theorem State.sweepLinkUp_apply (s : State) : s.sweepLinkUp.apply = s.apply := by rw [State.sweepLinkUp_frame]
@[simp] theorem State.sweepLinkUp_pair (s : State) : s.sweepLinkUp.pair = s.pair := by rw [State.sweepLinkUp_frame]
@[simp] theorem State.sweepLinkUp_alert (s : State) : s.sweepLinkUp.alert = s.alert := by rw [State.sweepLinkUp_frame]

@[simp] theorem State.startSweep_role (s : State) : s.startSweep.role = s.role := by rw [State.startSweep_frame]
@[simp] theorem State.startSweep_regions (s : State) : s.startSweep.regions = s.regions := by rw [State.startSweep_frame]
@[simp] theorem State.startSweep_params (s : State) : s.startSweep.params = s.params := by rw [State.startSweep_frame]
@[simp] theorem State.startSweep_host (s : State) : s.startSweep.host = s.host := by rw [State.startSweep_frame]
@[simp] theorem State.startSweep_mem (s : State) : s.startSweep.mem = s.mem := by rw [State.startSweep_frame]
@[simp] theorem State.startSweep_journal (s : State) : s.startSweep.journal = s.journal := by rw [State.startSweep_frame]
@[simp] theorem State.startSweep_map (s : State) : s.startSweep.map = s.map := by rw [State.startSweep_frame]
@[simp] theorem State.startSweep_link (s : State) : s.startSweep.link = s.link := by rw [State.startSweep_frame]
@[simp] theorem State.startSweep_sender (s : State) : s.startSweep.sender = s.sender := by rw [State.startSweep_frame]
@[simp] theorem State.startSweep_receiver (s : State) : s.startSweep.receiver = s.receiver := by rw [State.startSweep_frame]
@[simp] theorem State.startSweep_apply (s : State) : s.startSweep.apply = s.apply := by rw [State.startSweep_frame]
@[simp] theorem State.startSweep_pair (s : State) : s.startSweep.pair = s.pair := by rw [State.startSweep_frame]
@[simp] theorem State.startSweep_alert (s : State) : s.startSweep.alert = s.alert := by rw [State.startSweep_frame]

@[simp] theorem State.stopSweep_role (s : State) : s.stopSweep.role = s.role := by rw [State.stopSweep_frame]
@[simp] theorem State.stopSweep_regions (s : State) : s.stopSweep.regions = s.regions := by rw [State.stopSweep_frame]
@[simp] theorem State.stopSweep_params (s : State) : s.stopSweep.params = s.params := by rw [State.stopSweep_frame]
@[simp] theorem State.stopSweep_journal (s : State) : s.stopSweep.journal = s.journal := by rw [State.stopSweep_frame]
@[simp] theorem State.stopSweep_link (s : State) : s.stopSweep.link = s.link := by rw [State.stopSweep_frame]
@[simp] theorem State.stopSweep_sender (s : State) : s.stopSweep.sender = s.sender := by rw [State.stopSweep_frame]
@[simp] theorem State.stopSweep_receiver (s : State) : s.stopSweep.receiver = s.receiver := by rw [State.stopSweep_frame]
@[simp] theorem State.stopSweep_apply (s : State) : s.stopSweep.apply = s.apply := by rw [State.stopSweep_frame]
@[simp] theorem State.stopSweep_pair (s : State) : s.stopSweep.pair = s.pair := by rw [State.stopSweep_frame]
@[simp] theorem State.stopSweep_alert (s : State) : s.stopSweep.alert = s.alert := by rw [State.stopSweep_frame]

@[simp] theorem State.timedOut_role (ds : List Block) (s : State) : (s.timedOut ds).role = s.role := by rw [State.timedOut_frame]
@[simp] theorem State.timedOut_regions (ds : List Block) (s : State) : (s.timedOut ds).regions = s.regions := by rw [State.timedOut_frame]
@[simp] theorem State.timedOut_params (ds : List Block) (s : State) : (s.timedOut ds).params = s.params := by rw [State.timedOut_frame]
@[simp] theorem State.timedOut_host (ds : List Block) (s : State) : (s.timedOut ds).host = s.host := by rw [State.timedOut_frame]
@[simp] theorem State.timedOut_mem (ds : List Block) (s : State) : (s.timedOut ds).mem = s.mem := by rw [State.timedOut_frame]
@[simp] theorem State.timedOut_journal (ds : List Block) (s : State) : (s.timedOut ds).journal = s.journal := by rw [State.timedOut_frame]
@[simp] theorem State.timedOut_link (ds : List Block) (s : State) : (s.timedOut ds).link = s.link := by rw [State.timedOut_frame]
@[simp] theorem State.timedOut_sender (ds : List Block) (s : State) : (s.timedOut ds).sender = s.sender := by rw [State.timedOut_frame]
@[simp] theorem State.timedOut_receiver (ds : List Block) (s : State) : (s.timedOut ds).receiver = s.receiver := by rw [State.timedOut_frame]
@[simp] theorem State.timedOut_apply (ds : List Block) (s : State) : (s.timedOut ds).apply = s.apply := by rw [State.timedOut_frame]

@[simp] theorem State.dueTraining_role (s : State) : s.dueTraining.role = s.role := by rw [State.dueTraining_frame]
@[simp] theorem State.dueTraining_regions (s : State) : s.dueTraining.regions = s.regions := by rw [State.dueTraining_frame]
@[simp] theorem State.dueTraining_params (s : State) : s.dueTraining.params = s.params := by rw [State.dueTraining_frame]
@[simp] theorem State.dueTraining_host (s : State) : s.dueTraining.host = s.host := by rw [State.dueTraining_frame]
@[simp] theorem State.dueTraining_mem (s : State) : s.dueTraining.mem = s.mem := by rw [State.dueTraining_frame]
@[simp] theorem State.dueTraining_journal (s : State) : s.dueTraining.journal = s.journal := by rw [State.dueTraining_frame]
@[simp] theorem State.dueTraining_map (s : State) : s.dueTraining.map = s.map := by rw [State.dueTraining_frame]
@[simp] theorem State.dueTraining_sweep (s : State) : s.dueTraining.sweep = s.sweep := by rw [State.dueTraining_frame]
@[simp] theorem State.dueTraining_sender (s : State) : s.dueTraining.sender = s.sender := by rw [State.dueTraining_frame]
@[simp] theorem State.dueTraining_receiver (s : State) : s.dueTraining.receiver = s.receiver := by rw [State.dueTraining_frame]
@[simp] theorem State.dueTraining_apply (s : State) : s.dueTraining.apply = s.apply := by rw [State.dueTraining_frame]
@[simp] theorem State.dueTraining_pair (s : State) : s.dueTraining.pair = s.pair := by rw [State.dueTraining_frame]
@[simp] theorem State.dueTraining_alert (s : State) : s.dueTraining.alert = s.alert := by rw [State.dueTraining_frame]

@[simp] theorem State.rewoundForRetry_role (s : State) : s.rewoundForRetry.role = s.role := by rw [State.rewoundForRetry_frame]
@[simp] theorem State.rewoundForRetry_regions (s : State) : s.rewoundForRetry.regions = s.regions := by rw [State.rewoundForRetry_frame]
@[simp] theorem State.rewoundForRetry_params (s : State) : s.rewoundForRetry.params = s.params := by rw [State.rewoundForRetry_frame]
@[simp] theorem State.rewoundForRetry_host (s : State) : s.rewoundForRetry.host = s.host := by rw [State.rewoundForRetry_frame]
@[simp] theorem State.rewoundForRetry_mem (s : State) : s.rewoundForRetry.mem = s.mem := by rw [State.rewoundForRetry_frame]
@[simp] theorem State.rewoundForRetry_map (s : State) : s.rewoundForRetry.map = s.map := by rw [State.rewoundForRetry_frame]
@[simp] theorem State.rewoundForRetry_sweep (s : State) : s.rewoundForRetry.sweep = s.sweep := by rw [State.rewoundForRetry_frame]
@[simp] theorem State.rewoundForRetry_link (s : State) : s.rewoundForRetry.link = s.link := by rw [State.rewoundForRetry_frame]
@[simp] theorem State.rewoundForRetry_receiver (s : State) : s.rewoundForRetry.receiver = s.receiver := by rw [State.rewoundForRetry_frame]
@[simp] theorem State.rewoundForRetry_apply (s : State) : s.rewoundForRetry.apply = s.apply := by rw [State.rewoundForRetry_frame]
@[simp] theorem State.rewoundForRetry_pair (s : State) : s.rewoundForRetry.pair = s.pair := by rw [State.rewoundForRetry_frame]
@[simp] theorem State.rewoundForRetry_alert (s : State) : s.rewoundForRetry.alert = s.alert := by rw [State.rewoundForRetry_frame]

@[simp] theorem State.testHello_role (h : Hello) (s : State) : (s.testHello h).role = s.role := by rw [State.testHello_frame]
@[simp] theorem State.testHello_regions (h : Hello) (s : State) : (s.testHello h).regions = s.regions := by rw [State.testHello_frame]
@[simp] theorem State.testHello_params (h : Hello) (s : State) : (s.testHello h).params = s.params := by rw [State.testHello_frame]
@[simp] theorem State.testHello_host (h : Hello) (s : State) : (s.testHello h).host = s.host := by rw [State.testHello_frame]
@[simp] theorem State.testHello_mem (h : Hello) (s : State) : (s.testHello h).mem = s.mem := by rw [State.testHello_frame]
@[simp] theorem State.testHello_journal (h : Hello) (s : State) : (s.testHello h).journal = s.journal := by rw [State.testHello_frame]
@[simp] theorem State.testHello_sweep (h : Hello) (s : State) : (s.testHello h).sweep = s.sweep := by rw [State.testHello_frame]
@[simp] theorem State.testHello_sender (h : Hello) (s : State) : (s.testHello h).sender = s.sender := by rw [State.testHello_frame]
@[simp] theorem State.testHello_receiver (h : Hello) (s : State) : (s.testHello h).receiver = s.receiver := by rw [State.testHello_frame]
@[simp] theorem State.testHello_apply (h : Hello) (s : State) : (s.testHello h).apply = s.apply := by rw [State.testHello_frame]
@[simp] theorem State.testHello_pair (h : Hello) (s : State) : (s.testHello h).pair = s.pair := by rw [State.testHello_frame]

@[simp] theorem State.testStart_role (session : SessionNo) (mode : SessionMode) (s : State) : (s.testStart session mode).role = s.role := by rw [State.testStart_frame]
@[simp] theorem State.testStart_regions (session : SessionNo) (mode : SessionMode) (s : State) : (s.testStart session mode).regions = s.regions := by rw [State.testStart_frame]
@[simp] theorem State.testStart_params (session : SessionNo) (mode : SessionMode) (s : State) : (s.testStart session mode).params = s.params := by rw [State.testStart_frame]
@[simp] theorem State.testStart_host (session : SessionNo) (mode : SessionMode) (s : State) : (s.testStart session mode).host = s.host := by rw [State.testStart_frame]
@[simp] theorem State.testStart_mem (session : SessionNo) (mode : SessionMode) (s : State) : (s.testStart session mode).mem = s.mem := by rw [State.testStart_frame]
@[simp] theorem State.testStart_journal (session : SessionNo) (mode : SessionMode) (s : State) : (s.testStart session mode).journal = s.journal := by rw [State.testStart_frame]
@[simp] theorem State.testStart_map (session : SessionNo) (mode : SessionMode) (s : State) : (s.testStart session mode).map = s.map := by rw [State.testStart_frame]
@[simp] theorem State.testStart_sweep (session : SessionNo) (mode : SessionMode) (s : State) : (s.testStart session mode).sweep = s.sweep := by rw [State.testStart_frame]
@[simp] theorem State.testStart_sender (session : SessionNo) (mode : SessionMode) (s : State) : (s.testStart session mode).sender = s.sender := by rw [State.testStart_frame]
@[simp] theorem State.testStart_apply (session : SessionNo) (mode : SessionMode) (s : State) : (s.testStart session mode).apply = s.apply := by rw [State.testStart_frame]
@[simp] theorem State.testStart_pair (session : SessionNo) (mode : SessionMode) (s : State) : (s.testStart session mode).pair = s.pair := by rw [State.testStart_frame]

@[simp] theorem State.placeData_role (r : QueueRecord) (s : State) : (s.placeData r).role = s.role := by rw [State.placeData_frame]
@[simp] theorem State.placeData_regions (r : QueueRecord) (s : State) : (s.placeData r).regions = s.regions := by rw [State.placeData_frame]
@[simp] theorem State.placeData_params (r : QueueRecord) (s : State) : (s.placeData r).params = s.params := by rw [State.placeData_frame]
@[simp] theorem State.placeData_host (r : QueueRecord) (s : State) : (s.placeData r).host = s.host := by rw [State.placeData_frame]
@[simp] theorem State.placeData_mem (r : QueueRecord) (s : State) : (s.placeData r).mem = s.mem := by rw [State.placeData_frame]
@[simp] theorem State.placeData_journal (r : QueueRecord) (s : State) : (s.placeData r).journal = s.journal := by rw [State.placeData_frame]
@[simp] theorem State.placeData_map (r : QueueRecord) (s : State) : (s.placeData r).map = s.map := by rw [State.placeData_frame]
@[simp] theorem State.placeData_sweep (r : QueueRecord) (s : State) : (s.placeData r).sweep = s.sweep := by rw [State.placeData_frame]
@[simp] theorem State.placeData_sender (r : QueueRecord) (s : State) : (s.placeData r).sender = s.sender := by rw [State.placeData_frame]
@[simp] theorem State.placeData_pair (r : QueueRecord) (s : State) : (s.placeData r).pair = s.pair := by rw [State.placeData_frame]
@[simp] theorem State.placeData_alert (r : QueueRecord) (s : State) : (s.placeData r).alert = s.alert := by rw [State.placeData_frame]

@[simp] theorem State.applyHead_role (s : State) : s.applyHead.role = s.role := by rw [State.applyHead_frame]
@[simp] theorem State.applyHead_regions (s : State) : s.applyHead.regions = s.regions := by rw [State.applyHead_frame]
@[simp] theorem State.applyHead_params (s : State) : s.applyHead.params = s.params := by rw [State.applyHead_frame]
@[simp] theorem State.applyHead_host (s : State) : s.applyHead.host = s.host := by rw [State.applyHead_frame]
@[simp] theorem State.applyHead_mem (s : State) : s.applyHead.mem = s.mem := by rw [State.applyHead_frame]
@[simp] theorem State.applyHead_journal (s : State) : s.applyHead.journal = s.journal := by rw [State.applyHead_frame]
@[simp] theorem State.applyHead_map (s : State) : s.applyHead.map = s.map := by rw [State.applyHead_frame]
@[simp] theorem State.applyHead_sweep (s : State) : s.applyHead.sweep = s.sweep := by rw [State.applyHead_frame]
@[simp] theorem State.applyHead_sender (s : State) : s.applyHead.sender = s.sender := by rw [State.applyHead_frame]
@[simp] theorem State.applyHead_pair (s : State) : s.applyHead.pair = s.pair := by rw [State.applyHead_frame]
@[simp] theorem State.applyHead_alert (s : State) : s.applyHead.alert = s.alert := by rw [State.applyHead_frame]

@[simp] theorem State.acceptNak_role (d : Nat) (s : State) : (s.acceptNak d).role = s.role := by rw [State.acceptNak_frame]
@[simp] theorem State.acceptNak_regions (d : Nat) (s : State) : (s.acceptNak d).regions = s.regions := by rw [State.acceptNak_frame]
@[simp] theorem State.acceptNak_params (d : Nat) (s : State) : (s.acceptNak d).params = s.params := by rw [State.acceptNak_frame]
@[simp] theorem State.acceptNak_map (d : Nat) (s : State) : (s.acceptNak d).map = s.map := by rw [State.acceptNak_frame]
@[simp] theorem State.acceptNak_link (d : Nat) (s : State) : (s.acceptNak d).link = s.link := by rw [State.acceptNak_frame]
@[simp] theorem State.acceptNak_receiver (d : Nat) (s : State) : (s.acceptNak d).receiver = s.receiver := by rw [State.acceptNak_frame]
@[simp] theorem State.acceptNak_apply (d : Nat) (s : State) : (s.acceptNak d).apply = s.apply := by rw [State.acceptNak_frame]

@[simp] theorem State.applyFaulted_role (s : State) : s.applyFaulted.role = s.role := by rw [State.applyFaulted_frame]
@[simp] theorem State.applyFaulted_regions (s : State) : s.applyFaulted.regions = s.regions := by rw [State.applyFaulted_frame]
@[simp] theorem State.applyFaulted_params (s : State) : s.applyFaulted.params = s.params := by rw [State.applyFaulted_frame]
@[simp] theorem State.applyFaulted_host (s : State) : s.applyFaulted.host = s.host := by rw [State.applyFaulted_frame]
@[simp] theorem State.applyFaulted_journal (s : State) : s.applyFaulted.journal = s.journal := by rw [State.applyFaulted_frame]
@[simp] theorem State.applyFaulted_map (s : State) : s.applyFaulted.map = s.map := by rw [State.applyFaulted_frame]
@[simp] theorem State.applyFaulted_sweep (s : State) : s.applyFaulted.sweep = s.sweep := by rw [State.applyFaulted_frame]
@[simp] theorem State.applyFaulted_sender (s : State) : s.applyFaulted.sender = s.sender := by rw [State.applyFaulted_frame]
@[simp] theorem State.applyFaulted_receiver (s : State) : s.applyFaulted.receiver = s.receiver := by rw [State.applyFaulted_frame]
@[simp] theorem State.applyFaulted_pair (s : State) : s.applyFaulted.pair = s.pair := by rw [State.applyFaulted_frame]

@[simp] theorem State.loseLink_role (s : State) : s.loseLink.role = s.role := by rw [State.loseLink_frame]
@[simp] theorem State.loseLink_regions (s : State) : s.loseLink.regions = s.regions := by rw [State.loseLink_frame]
@[simp] theorem State.loseLink_params (s : State) : s.loseLink.params = s.params := by rw [State.loseLink_frame]
@[simp] theorem State.loseLink_receiver (s : State) : s.loseLink.receiver = s.receiver := by rw [State.loseLink_frame]
@[simp] theorem State.loseLink_apply (s : State) : s.loseLink.apply = s.apply := by rw [State.loseLink_frame]

@[simp] theorem State.localHalt_role (r : HaltReason) (s : State) : (s.localHalt r).role = s.role := by rw [State.localHalt_frame_any]
@[simp] theorem State.localHalt_regions (r : HaltReason) (s : State) : (s.localHalt r).regions = s.regions := by rw [State.localHalt_frame_any]
@[simp] theorem State.localHalt_params (r : HaltReason) (s : State) : (s.localHalt r).params = s.params := by rw [State.localHalt_frame_any]
@[simp] theorem State.localHalt_receiver (r : HaltReason) (s : State) : (s.localHalt r).receiver = s.receiver := by rw [State.localHalt_frame_any]
@[simp] theorem State.localHalt_apply (r : HaltReason) (s : State) : (s.localHalt r).apply = s.apply := by rw [State.localHalt_frame_any]

@[simp] theorem State.haltReceived_role (r : HaltReason) (s : State) : (s.haltReceived r).role = s.role := by rw [State.haltReceived_frame]
@[simp] theorem State.haltReceived_regions (r : HaltReason) (s : State) : (s.haltReceived r).regions = s.regions := by rw [State.haltReceived_frame]
@[simp] theorem State.haltReceived_params (r : HaltReason) (s : State) : (s.haltReceived r).params = s.params := by rw [State.haltReceived_frame]
@[simp] theorem State.haltReceived_receiver (r : HaltReason) (s : State) : (s.haltReceived r).receiver = s.receiver := by rw [State.haltReceived_frame]
@[simp] theorem State.haltReceived_apply (r : HaltReason) (s : State) : (s.haltReceived r).apply = s.apply := by rw [State.haltReceived_frame]
end Sys2Proof.Machine

/-! PROOF. The alert law (R170, R175): the causes change by occurrences, reads and acknowledgements only, and the line follows. -/

namespace Sys2Proof.Machine

open Sys2Proof

set_option Elab.async false

/-- R170: a cause is CLEAR exactly while its count is 0. -/
def Cause.lawful (c : Cause) : Prop := c.state = .clear ↔ c.count = 0

theorem Cause.lawful_occur {c : Cause} (h : c.lawful) : c.occur.lawful := by
  rcases c with ⟨_ | _ | _, count⟩
  · simp [Cause.occur, Cause.lawful]
  all_goals
    simp only [Cause.occur, Cause.lawful, reduceCtorEq, false_iff] at h ⊢
    split
    · decide
    · bv_omega

theorem Cause.lawful_afterRead {c : Cause} (h : c.lawful) : c.afterRead.lawful := by
  rcases c with ⟨_ | _ | _, count⟩ <;> simpa [Cause.afterRead, Cause.lawful] using h

theorem Cause.lawful_acknowledge {c : Cause} (h : c.lawful) : c.acknowledge.lawful := by
  rcases c with ⟨_ | _ | _, count⟩
  · exact h
  · exact h
  · simp [Cause.acknowledge, Cause.lawful]

/-- Once the line is settled the law speaks of the causes one by one. -/
theorem alertLaw_of_settled {s : State} {a : AlertUnit} (hs : s.alert = a.settle) (h : ∀ i : Fin 15, a.causes[i].lawful) : AlertLaw s := by
  rw [AlertLaw, hs]
  exact ⟨rfl, h⟩

section
variable {s : State}

theorem AlertLaw.of_same {t : State} (h : AlertLaw s) (ha : t.alert = s.alert := by simp) : AlertLaw t := by
  rw [AlertLaw, ha]
  exact h

theorem AlertLaw.report (h : AlertLaw s) (c : AlertCause) : AlertLaw (s.report c) := by
  refine alertLaw_of_settled (a := { s.alert with causes := s.alert.causes.set c.index (s.cause c).occur }) rfl fun i => ?_
  by_cases hi : c.index.val = i.val
  · have hocc : (s.cause c).occur.lawful := Cause.lawful_occur (h.2 c.index)
    simpa [hi] using hocc
  · simpa [Vector.getElem_set_ne _ _ hi, Cause.lawful] using h.2 i

theorem AlertLaw.derivePair (h : AlertLaw s) : AlertLaw s.derivePair := by
  simp only [State.derivePair]
  split
  · exact AlertLaw.report (by exact h) _
  · split
    · exact AlertLaw.report (by exact h) _
    · exact h

theorem AlertLaw.waterTest (h : AlertLaw s) : AlertLaw s.waterTest := by
  unfold State.waterTest
  split
  · split
    · exact AlertLaw.report (by exact h) _
    · exact h
  · split
    · exact h
    · exact h

theorem AlertLaw.markDirty (h : AlertLaw s) (bs : List Block) : AlertLaw (s.markDirty bs) := by
  cases bs with
  | nil => exact h
  | cons b rest => exact AlertLaw.derivePair (h.of_same (t := s.setFlags (b :: rest)))

theorem AlertLaw.finish (h : AlertLaw s) : AlertLaw s.finish := h.derivePair.of_same (t := s.derivePair.kick)

theorem AlertLaw.timedOut (h : AlertLaw s) (ds : List Block) : AlertLaw (s.timedOut ds) :=
  ((h.of_same (t := s.bump .memoryTimeouts)).report _).markDirty ds

theorem AlertLaw.failTags (h : AlertLaw s) (ts : List Tag) : AlertLaw (failTags ts s) := by
  induction ts generalizing s with
  | nil => exact h
  | cons t rest ih => exact ih ((h.of_same (t := s.addResult _)).report _)

theorem AlertLaw.failMarkers (h : AlertLaw s) : AlertLaw s.failMarkers := AlertLaw.failTags (by exact h) _

theorem AlertLaw.handOff (h : AlertLaw s) (r : Record) : AlertLaw (s.handOff r) := by
  unfold State.handOff State.markerReached
  split
  · split
    · exact h
    · exact AlertLaw.report (by exact h) _
  · split
    · exact h.of_same
    · exact h

theorem AlertLaw.removeHead (h : AlertLaw s) (n : Nat) : AlertLaw (removeHead n s) := by
  induction n generalizing s with
  | zero => exact h
  | succ n ih =>
    unfold Machine.removeHead
    split
    · exact h
    · exact ih (AlertLaw.handOff (by exact h) _)

theorem AlertLaw.remove (h : AlertLaw s) (n : Nat) : AlertLaw (s.remove n) := by
  cases n with
  | zero => exact h
  | succ n => exact ((h.removeHead (n + 1)).of_same (t := (Machine.removeHead (n + 1) s).announceRise)).waterTest

theorem AlertLaw.sessionEnd (h : AlertLaw s) : AlertLaw s.sessionEnd := by
  have hfailed := (h.of_same (t := s.setFlags (s.journal.records.filterMap Record.block?))).failMarkers
  rw [State.sessionEnd_eq]
  exact (hfailed.of_same (t := s.sessionCleared.sweepLinkDown.retestHost.resetSender)
    (by simp [State.sessionCleared, State.hostSessionEnd])).waterTest

theorem AlertLaw.departUp (h : AlertLaw s) (dest : LinkState) : AlertLaw (s.departUp dest) := by
  simp only [State.departUp]
  split
  · exact AlertLaw.sessionEnd (s := s.setLink dest) h
  · exact h

theorem AlertLaw.loseLink (h : AlertLaw s) : AlertLaw s.loseLink :=
  ((h.departUp .training).of_same (t := (s.departUp .training).beginEpisode)).report _

theorem AlertLaw.localHalt (h : AlertLaw s) (r : HaltReason) : AlertLaw (s.localHalt r) := by
  unfold State.localHalt
  split
  · exact (AlertLaw.departUp (s := s.dueHalt r) h _).report _
  · exact AlertLaw.report (s := (s.dueHalt r).setLink .halted) h _
  · exact h

theorem AlertLaw.endPromotion (h : AlertLaw s) : AlertLaw s.endPromotion := by
  unfold State.endPromotion
  split
  · exact AlertLaw.report (by exact h) _
  · exact h

theorem AlertLaw.enterUp (h : AlertLaw s) : AlertLaw s.enterUp :=
  AlertLaw.report (by exact h) _

theorem AlertLaw.testHello (h : AlertLaw s) (hello : Hello) : AlertLaw (s.testHello hello) := by
  have hconflict : AlertLaw s.roleConflict := by
    unfold State.roleConflict
    split
    · exact h
    · exact AlertLaw.report (by exact h) _
  unfold State.testHello
  split
  · split
    · exact hconflict
    · refine h.of_same ?_
      unfold State.decide State.recheck
      split
      · split
        · dsimp only
          split <;> rfl
        · split
          · rfl
          · split <;> rfl
      · rfl
  · split
    · exact hconflict
    · exact h
  · exact h

theorem AlertLaw.testStart (h : AlertLaw s) (session : SessionNo) (mode : SessionMode) : AlertLaw (s.testStart session mode) := by
  unfold State.testStart
  split
  · exact AlertLaw.enterUp (by exact h)
  · exact h

theorem AlertLaw.applyFaulted (h : AlertLaw s) : AlertLaw s.applyFaulted := AlertLaw.report (by exact h) _

theorem AlertLaw.afterReadTimeout (h : AlertLaw s) (stop : Bool) : AlertLaw (s.afterReadTimeout stop) := by
  unfold State.afterReadTimeout
  dsimp only
  split
  · exact AlertLaw.report (by exact h) _
  · split
    · exact h
    · exact h

theorem AlertLaw.leavePrimary (h : AlertLaw s) : AlertLaw s.leavePrimary := by
  have hlink : AlertLaw s.linkLeavePrimary := by
    unfold State.linkLeavePrimary
    dsimp only
    split
    · exact AlertLaw.departUp (s := s.dueHalt _) h _
    · exact h
  refine AlertLaw.finish (AlertLaw.of_same ?_ (State.resetSender_alert _))
  exact AlertLaw.failMarkers (by exact hlink)

theorem AlertLaw.beginPromotion (h : AlertLaw s) : AlertLaw s.beginPromotion := by
  refine (AlertLaw.endPromotion (h.of_same ?_)).finish
  split <;> split <;> rfl

theorem AlertLaw.afterParam (h : AlertLaw s) (p : Param) (v : BitVec 32) : AlertLaw (s.afterParam p v) := by
  unfold State.afterParam
  split
  · exact h.waterTest
  · exact h.waterTest
  · split
    · exact (h.of_same (t := s.autoStart)).derivePair
    · exact h
  · exact h

theorem alertLaw_powerOn (h : s.alert = AlertUnit.powerOn) : AlertLaw s :=
  alertLaw_of_settled (a := AlertUnit.powerOn) (h.trans (by decide)) fun i => by simp [AlertUnit.powerOn, Cause.lawful]

end

theorem AlertLaw.afterRead {s : State} (h : AlertLaw s) : AlertLaw { s with alert := s.alert.afterRead } :=
  alertLaw_of_settled rfl fun i => by simpa using Cause.lawful_afterRead (h.2 i)

theorem AlertLaw.acknowledge {s : State} (h : AlertLaw s) (mask : BitVec 16) : AlertLaw { s with alert := s.alert.acknowledge mask } :=
  alertLaw_of_settled rfl fun i => by
    have hi : s.alert.causes[i].lawful := h.2 i
    simp only [Fin.getElem_fin, Vector.getElem_ofFn]
    split
    · exact Cause.lawful_acknowledge hi
    · exact hi

theorem Effect.keeps_alertLaw {s t : State} (heff : Effect s t) (h : AlertLaw s) : AlertLaw t := by
  cases heff with
  | unchanged | ownFields | counters | passes | admitted | stalled | misaligned => exact h
  | fenced => exact AlertLaw.report (by exact h) _
  | claimed => exact h.of_same
  | marked => exact AlertLaw.markDirty (by exact h) _
  | initDrops => exact h
  | initReleases => exact h.of_same
  | initAbandons => exact h.of_same (by rw [State.unbind_frame]; rfl)
  | initEndsHold => exact h
  | forwarded => exact h.of_same (by rw [State.countHostGrant_frame]; simp)
  | dirtied t ds =>
    have hreleased : AlertLaw s.countHostGrant.releaseClaim := h.of_same (by rw [State.countHostGrant_frame]; simp)
    exact (hreleased.markDirty ds).of_same
  | merged => exact h.of_same (by rw [State.countHostGrant_frame]; simp)
  | appended t bound =>
    refine AlertLaw.of_same (AlertLaw.waterTest (s := { s.countHostGrant.appendRecord (lineRecord (s.txnLine t) t bound) with
      host := { s.host with claim := false, bound := bound } }) (h.of_same ?_))
    rw [State.countHostGrant_frame]
    rfl
  | grantFenced =>
    refine AlertLaw.report (s := State.bump _ (s.countHostGrant.answer _)) (h.of_same ?_) _
    rw [State.countHostGrant_frame]
    rfl
  | hostHeld | hostDone | hostDiscarded => exact h
  | hostTimedOut u ds =>
    refine AlertLaw.timedOut (s := s.unbind.freePort.answer _) (h.of_same ?_) ds
    rw [State.unbind_frame]
    rfl
  | abandonedTimedOut u ds => exact AlertLaw.timedOut (s := s.freePort) h ds
  | spaceExpired n => exact AlertLaw.markDirty (by exact h) _
  | holdExpired => exact AlertLaw.report (by exact h) _
  | selected b =>
    refine AlertLaw.finish (h.of_same (t := (s.select b).retestHost) ?_)
    rw [State.select, State.reserveTest_frame]
    simp
  | sweepGranted c => exact AlertLaw.waterTest (by exact h)
  | readStopped c data =>
    refine AlertLaw.finish (h.of_same (t := (s.readFilled data).stopCopy.retestHost) ?_)
    rw [State.stopCopy_frame]
    simp [State.readFilled]
  | readAdvanced c data =>
    refine AlertLaw.finish (h.of_same (t := ((s.readFilled data).advanceCopy c).retestHost) ?_)
    rw [State.advanceCopy_frame]
    simp [State.readFilled]
  | readTimedOut =>
    have hmarked : AlertLaw s.endSweepRead.withdrawPlaceholder.remarkCopy := h.of_same
    exact ((hmarked.afterReadTimeout s.sweep.stopPending).of_same (t := State.announceRise _)).waterTest.finish
  | orphanEnded => exact h
  | repeated => exact h.of_same (by rw [State.dueTraining_frame]; simp)
  | kept => exact h.of_same
  | silent => exact h.loseLink.finish
  | resent => exact h.of_same (by simp [State.rewoundForRetry])
  | exhausted => exact (AlertLaw.localHalt (s := s.rewoundForRetry) h _).finish
  | frameEnded => exact h.of_same
  | heard => exact h
  | helloTested hello => exact (h.testHello hello).finish
  | helloInUp hello => exact ((AlertLaw.loseLink (s := s.restartSilence) h).testHello hello).finish
  | startTested session mode => exact (h.testStart session mode).finish
  | startRepeated => exact h.of_same
  | startInUp session mode => exact ((AlertLaw.loseLink (s := s.restartSilence) h).testStart session mode).finish
  | ready =>
    refine AlertLaw.finish (h.enterUp.of_same ?_)
    rw [State.sweepLinkUp_frame]
    rfl
  | dataTaken => exact h.of_same (by rw [State.placeData_frame]; simp)
  | acked n => exact (AlertLaw.remove (s := s.restartSilence) h n).of_same
  | nakCounted => exact h
  | naked d =>
    have hremoved := AlertLaw.remove (s := s.restartSilence.bump .naksReceived) h
      ((s.restartSilence.bump .naksReceived).journal.nakRemoves d)
    refine AlertLaw.of_same (hremoved.of_same (t := (s.restartSilence.bump .naksReceived).acceptNak d) ?_)
    unfold State.acceptNak
    dsimp only
    split
    · split <;> rfl
    · simp
  | halted r => exact ((AlertLaw.departUp (s := s.restartSilence) h .halted).report .linkHalted).of_same (t := State.haltReceived r _) rfl |>.finish
  | applyGranted => exact h
  | applyContinued => exact AlertLaw.finish (by exact h)
  | applied =>
    refine (AlertLaw.endPromotion (h.of_same ?_)).finish
    rw [State.applyHead_frame]
    rfl
  | applyFaults => exact (h.applyFaulted.localHalt _).finish
  | promotionFaults => exact (AlertLaw.endPromotion ((h.applyFaulted.localHalt .applyFault).of_same (t := State.discardQueue _))).finish
  | regionWritten => exact h
  | paramWritten p v => exact AlertLaw.afterParam (by exact h) p v
  | becamePrimary => exact AlertLaw.finish (by exact h)
  | becameReplica => exact AlertLaw.finish (by exact h)
  | leftPrimary => exact h.leavePrimary
  | repairStarted =>
    refine AlertLaw.derivePair (h.of_same ?_)
    rw [State.startSweep_frame]
  | repairStopped =>
    refine AlertLaw.derivePair (h.of_same ?_)
    rw [State.stopSweep_frame]
  | markerPlaced tag =>
    refine AlertLaw.of_same (AlertLaw.waterTest (h.of_same ?_)) (State.kick_alert _)
    rw [State.sweepFall_frame]
    rfl
  | markersRead => exact h
  | relinked => exact AlertLaw.finish (s := s.enterTraining) h
  | promoted => exact h.beginPromotion
  | faultCleared => exact h
  | alertsRead => exact h.afterRead
  | alertsAcked mask => exact h.acknowledge mask
  | alertsEnabled enables => exact alertLaw_of_settled rfl h.2
  | softReset | powerOnReset => exact alertLaw_powerOn rfl

/-- Settles O5: every effect keeps the law, and so does every step. -/
theorem stepKeepsAlertLaw : Obligations.StepKeepsAlertLaw := fun _ _ =>
  step_keeps (fun _ _ _ _ _ h => h) (fun _ _ _ _ _ h => h) (fun _ _ => Effect.keeps_alertLaw)

end Sys2Proof.Machine

/-! PROOF. The link law (R76, R79, R88): the link state follows the role and the timers follow the link state. -/

namespace Sys2Proof.Machine

open Sys2Proof

set_option Elab.async false

/-! ## What the operations change of the link -/

/-- The transmitter takes its frame from the due flags and changes nothing else of the link (R78). -/
theorem State.kick_link (s : State) : s.kick.link = { s.link with tx := s.kick.link.tx, due := s.kick.link.due } := by
  unfold State.kick
  dsimp only
  split
  · rfl
  · split
    · rfl
    · split
      · rfl
      · split
        · rfl
        · split
          · rfl
          · split
            · rfl
            · split
              · rfl
              · split
                · next f t h => rw [State.dataFrame_frame s f t h]; rfl
                · split <;> rfl

section
variable (s : State)

@[simp] theorem State.kick_link_state : s.kick.link.state = s.link.state := by rw [State.kick_link]
@[simp] theorem State.kick_link_phase : s.kick.link.phase = s.link.phase := by rw [State.kick_link]
@[simp] theorem State.kick_link_conflictReported : s.kick.link.conflictReported = s.link.conflictReported := by rw [State.kick_link]
@[simp] theorem State.kick_link_lastSession : s.kick.link.lastSession = s.link.lastSession := by rw [State.kick_link]
@[simp] theorem State.kick_link_lastServed : s.kick.link.lastServed = s.link.lastServed := by rw [State.kick_link]
@[simp] theorem State.kick_link_continuity : s.kick.link.continuity = s.link.continuity := by rw [State.kick_link]
@[simp] theorem State.kick_link_haltRecord : s.kick.link.haltRecord = s.link.haltRecord := by rw [State.kick_link]
@[simp] theorem State.kick_link_repeatRun : s.kick.link.repeatRun = s.link.repeatRun := by rw [State.kick_link]
@[simp] theorem State.kick_link_keepaliveRun : s.kick.link.keepaliveRun = s.link.keepaliveRun := by rw [State.kick_link]
@[simp] theorem State.kick_link_silence : s.kick.link.silence = s.link.silence := by rw [State.kick_link]

@[simp] theorem State.finish_link_state : s.finish.link.state = s.link.state := by simp [State.finish]
@[simp] theorem State.finish_link_phase : s.finish.link.phase = s.link.phase := by simp [State.finish]
@[simp] theorem State.finish_link_conflictReported : s.finish.link.conflictReported = s.link.conflictReported := by simp [State.finish]
@[simp] theorem State.finish_link_lastSession : s.finish.link.lastSession = s.link.lastSession := by simp [State.finish]
@[simp] theorem State.finish_link_lastServed : s.finish.link.lastServed = s.link.lastServed := by simp [State.finish]
@[simp] theorem State.finish_link_continuity : s.finish.link.continuity = s.link.continuity := by simp [State.finish]
@[simp] theorem State.finish_link_haltRecord : s.finish.link.haltRecord = s.link.haltRecord := by simp [State.finish]
@[simp] theorem State.finish_link_repeatRun : s.finish.link.repeatRun = s.link.repeatRun := by simp [State.finish]
@[simp] theorem State.finish_link_keepaliveRun : s.finish.link.keepaliveRun = s.link.keepaliveRun := by simp [State.finish]
@[simp] theorem State.finish_link_silence : s.finish.link.silence = s.link.silence := by simp [State.finish]

/-- A record applied can make an ACK due (R126). -/
theorem State.recordApplied_link (r : QueueRecord) : (s.recordApplied r).link = { s.link with due := (s.recordApplied r).link.due } := by
  unfold State.recordApplied
  dsimp only
  split <;> rfl

end

theorem takeQueue_link (q : List QueueRecord) (s : State) : (takeQueue q s).link = { s.link with due := (takeQueue q s).link.due } := by
  induction q generalizing s with
  | nil => rfl
  | cons r rest ih =>
    unfold takeQueue
    split
    · rw [ih, State.recordApplied_link]
    · rfl

theorem State.placeData_link (r : QueueRecord) (s : State) : (s.placeData r).link = { s.link with due := (s.placeData r).link.due } := by
  unfold State.placeData State.acceptData State.gap
  dsimp only
  split
  · split
    · split
      · rw [takeQueue_link]
      · rfl
    · split <;> rfl
  · split
    · rfl
    · split <;> rfl

theorem State.applyHead_link (s : State) : s.applyHead.link = { s.link with due := s.applyHead.link.due } := by
  unfold State.applyHead
  split
  · rw [takeQueue_link, State.recordApplied_link]
  · rfl

theorem State.loseLink_link (s : State) : s.loseLink.link = (s.setLink .training).beginEpisode.link := by
  simp [State.loseLink, State.beginEpisode, State.departUp_link]

/-! ## The law -/

section
variable {s : State}

theorem LinkLaw.of_same {t : State} (h : LinkLaw s) (hstate : t.link.state = s.link.state := by simp)
    (hrepeat : t.link.repeatRun = s.link.repeatRun := by simp) (hsilence : t.link.silence = s.link.silence := by simp)
    (hkeep : t.link.keepaliveRun = s.link.keepaliveRun := by simp) (hrole : t.role = s.role := by simp) : LinkLaw t := by
  rw [LinkLaw, hstate, hrepeat, hsilence, hkeep, hrole]
  exact h

/-- The law of a link in TRAINING. -/
theorem linkLaw_of_training (hrole : s.role = .primary ∨ s.role = .replica) (hstate : s.link.state = .training)
    (hrepeat : s.link.repeatRun = true) (hsilence : s.link.silence = none) (hkeep : s.link.keepaliveRun = false) : LinkLaw s := by
  rcases hrole with hrole | hrole <;> simp [LinkLaw, hrole, hstate, hrepeat, hsilence, hkeep]

/-- The law of a link in OFF or HALTED, with its timers stopped. -/
theorem linkLaw_of_stopped (hstate : s.link.state = .off ∧ (s.role = .standalone ∨ s.role = .promoting) ∨
    s.link.state = .halted ∧ (s.role = .primary ∨ s.role = .replica))
    (hrepeat : s.link.repeatRun = false) (hsilence : s.link.silence = none) (hkeep : s.link.keepaliveRun = false) : LinkLaw s := by
  rcases hstate with ⟨hstate, hrole | hrole⟩ | ⟨hstate, hrole | hrole⟩ <;> simp [LinkLaw, hrole, hstate, hrepeat, hsilence, hkeep]

/-- A link that is not OFF has a role that keeps one. -/
theorem LinkLaw.role_of_not_off (h : LinkLaw s) (hl : s.link.state ≠ .off) : s.role = .primary ∨ s.role = .replica := by
  cases hr : s.role with
  | standalone => exact absurd (h.1.mpr (.inl hr)) hl
  | primary => exact .inl rfl
  | replica => exact .inr rfl
  | promoting => exact absurd (h.1.mpr (.inr hr)) hl

theorem LinkLaw.kick (h : LinkLaw s) : LinkLaw s.kick := h.of_same
theorem LinkLaw.finish (h : LinkLaw s) : LinkLaw s.finish := h.of_same

theorem LinkLaw.heard (h : LinkLaw s) (hup : s.link.state = .up) : LinkLaw s.restartSilence := by
  obtain ⟨hoff, hrepeat, -, hkeep⟩ := h
  exact ⟨hoff, hrepeat, by simp [hup], hkeep⟩

theorem linkLaw_enterTraining (hrole : s.role = .primary ∨ s.role = .replica) : LinkLaw s.enterTraining :=
  linkLaw_of_training hrole rfl rfl rfl rfl

theorem linkLaw_enterUp (hrole : s.role = .primary ∨ s.role = .replica) : LinkLaw s.enterUp := by
  rcases hrole with hrole | hrole <;>
    simp [LinkLaw, hrole, State.enterUp, State.setLink, State.restartSilence, State.report]

theorem linkLaw_loseLink (hrole : s.role = .primary ∨ s.role = .replica) : LinkLaw s.loseLink := by
  refine linkLaw_of_training (by simpa using hrole) ?_ ?_ ?_ ?_ <;> rw [State.loseLink_link] <;> rfl

theorem LinkLaw.localHalt (h : LinkLaw s) (r : HaltReason) : LinkLaw (s.localHalt r) := by
  unfold State.localHalt
  split
  · next hl =>
    refine linkLaw_of_stopped (.inr ⟨?_, by simpa using h.role_of_not_off (by simp [hl])⟩) ?_ ?_ ?_ <;>
      rw [State.report_link, State.departUp_link] <;> rfl
  · next hl => exact linkLaw_of_stopped (.inr ⟨rfl, h.role_of_not_off (by simp [hl])⟩) rfl rfl rfl
  · exact h

theorem LinkLaw.haltReceived (h : LinkLaw s) (hup : s.link.state = .up) (r : HaltReason) : LinkLaw (s.haltReceived r) := by
  have hlink : (s.departUp .halted).link = (s.setLink .halted).link := State.departUp_link _ _
  refine linkLaw_of_stopped (.inr ⟨?_, by simpa using h.role_of_not_off (by simp [hup])⟩) ?_ ?_ ?_ <;>
    simp [State.haltReceived, hlink, State.setLink]

/-- A HELLO tested in TRAINING leaves the link there, its timer running. -/
theorem LinkLaw.testHello (h : LinkLaw s) (htrain : s.link.state = .training) (hello : Hello) : LinkLaw (s.testHello hello) := by
  have hrun : s.link.repeatRun = true := h.2.1.mpr htrain
  unfold State.testHello State.roleConflict State.decide State.recheck
  split
  · split
    · split
      · exact h
      · exact h
    · split
      · split
        · dsimp only
          split
          · exact h.of_same rfl hrun.symm
          · exact h.of_same rfl hrun.symm
        · split
          · exact h
          · split
            · exact h
            · exact h
      · exact h
  · split
    · split
      · exact h
      · exact h
    · exact h
  · exact h

theorem LinkLaw.testStart (h : LinkLaw s) (hrole : s.role = .replica) (session : SessionNo) (mode : SessionMode) :
    LinkLaw (s.testStart session mode) := by
  unfold State.testStart
  split
  · exact linkLaw_enterUp (.inr hrole)
  · exact h

theorem LinkLaw.endPromotion (h : LinkLaw s) : LinkLaw s.endPromotion := by
  unfold State.endPromotion
  split
  · next hp =>
    obtain ⟨hrole, -⟩ := hp
    obtain ⟨hoff, hrest⟩ := h
    exact ⟨by simpa using hoff.mpr (.inr hrole), hrest⟩
  · exact h

theorem LinkLaw.applyHead (h : LinkLaw s) : LinkLaw s.applyHead := by
  refine h.of_same ?_ ?_ ?_ ?_ <;> rw [State.applyHead_link]

theorem linkLaw_leavePrimary : LinkLaw s.leavePrimary := by
  have hlink : s.linkLeavePrimary.link.state = .off ∧ s.linkLeavePrimary.link.repeatRun = false ∧
      s.linkLeavePrimary.link.silence = none ∧ s.linkLeavePrimary.link.keepaliveRun = false := by
    unfold State.linkLeavePrimary
    dsimp only
    split
    · rw [State.departUp_link]
      exact ⟨rfl, rfl, rfl, rfl⟩
    · exact ⟨rfl, rfl, rfl, rfl⟩
  obtain ⟨hstate, hrepeat, hsilence, hkeep⟩ := hlink
  refine LinkLaw.finish (linkLaw_of_stopped (.inl ⟨?_, .inl ?_⟩) ?_ ?_ ?_) <;> simp [*]

theorem linkLaw_beginPromotion : LinkLaw s.beginPromotion := by
  refine LinkLaw.finish (LinkLaw.endPromotion (linkLaw_of_stopped (.inl ⟨?_, .inr ?_⟩) ?_ ?_ ?_)) <;> split <;> split <;> rfl

theorem LinkLaw.afterParam (h : LinkLaw s) (p : Param) (v : BitVec 32) : LinkLaw (s.afterParam p v) := by
  unfold State.afterParam
  split
  · exact h.of_same
  · exact h.of_same
  · split
    · exact h.of_same
    · exact h
  · exact h

end

theorem Effect.keeps_linkLaw {s t : State} (heff : Effect s t) (h : LinkLaw s) : LinkLaw t := by
  cases heff with
  | unchanged | ownFields | counters => exact h
  | passes | misaligned | fenced | admitted | claimed | marked | stalled => exact h.of_same
  | initDrops | initReleases | initAbandons | initEndsHold => exact h.of_same
  | forwarded | dirtied | merged | appended | grantFenced => exact h.of_same
  | hostHeld | hostDone | hostDiscarded | hostTimedOut | abandonedTimedOut | spaceExpired | holdExpired => exact h.of_same
  | selected | sweepGranted | readStopped | readAdvanced | readTimedOut | orphanEnded => exact h.of_same
  | repeated => refine LinkLaw.kick (h.of_same ?_ ?_ ?_ ?_) <;> rw [State.dueTraining_frame]
  | kept => exact LinkLaw.kick ⟨h.1, h.2.1, h.2.2.1, nofun⟩
  | silent l hrun =>
    have hup : s.link.state = .up := h.2.2.1.mp (by simp [hrun])
    exact (linkLaw_loseLink (h.role_of_not_off (by simp [hup]))).finish
  | resent => exact h.of_same
  | exhausted => exact (LinkLaw.localHalt (s := s.rewoundForRetry) h _).finish
  | frameEnded => exact LinkLaw.kick ⟨h.1, h.2.1, h.2.2.1, by simp [State.linkUp]⟩
  | heard hup => exact h.heard hup
  | helloTested hello htrain => exact (h.testHello htrain hello).finish
  | helloInUp hello hup =>
    refine LinkLaw.finish (LinkLaw.testHello (linkLaw_loseLink (h.role_of_not_off (by simp [hup]))) ?_ hello)
    rw [State.loseLink_link]
    rfl
  | startTested session mode hrole => exact (h.testStart hrole session mode).finish
  | startRepeated hrole hup => exact LinkLaw.kick (s := s.restartSilence.dueReady) (h.heard hup)
  | startInUp session mode hrole =>
    exact (LinkLaw.testStart (linkLaw_loseLink (.inr hrole)) (by simpa using hrole) session mode).finish
  | ready hrole => exact LinkLaw.finish (LinkLaw.of_same (linkLaw_enterUp (s := s) (.inl hrole)))
  | dataTaken r hrole hup =>
    refine LinkLaw.kick ((h.heard hup).of_same ?_ ?_ ?_ ?_) <;> rw [State.placeData_link]
  | acked n hrole hup => exact (h.heard hup).of_same
  | nakCounted hup => exact h.heard hup
  | naked d hrole hup => exact (h.heard hup).of_same
  | halted r hup => exact ((h.heard hup).haltReceived (by simpa using hup) r).finish
  | applyGranted | applyContinued => exact h.of_same
  | applied => exact (LinkLaw.applyHead (s := s.freePort) h).endPromotion.finish
  | applyFaults => exact (LinkLaw.localHalt (s := s.applyFaulted) h _).finish
  | promotionFaults =>
    exact (LinkLaw.endPromotion ((LinkLaw.localHalt (s := s.applyFaulted) h .applyFault).of_same (t := State.discardQueue _))).finish
  | regionWritten => exact h
  | paramWritten p v => exact LinkLaw.afterParam (by exact h) p v
  | becamePrimary => exact LinkLaw.finish (linkLaw_enterTraining (.inl rfl))
  | becameReplica => exact LinkLaw.finish (linkLaw_enterTraining (.inr rfl))
  | leftPrimary => exact linkLaw_leavePrimary
  | repairStarted | repairStopped => exact h.of_same
  | markerPlaced => refine h.of_same ?_ ?_ ?_ ?_ ?_ <;> simp [State.placeMarker]
  | markersRead => exact h
  | relinked hhalt => exact (linkLaw_enterTraining (h.role_of_not_off (by simp [hhalt]))).finish
  | promoted => exact linkLaw_beginPromotion
  | faultCleared | alertsRead | alertsAcked | alertsEnabled => exact h
  | softReset | powerOnReset => exact linkLaw_of_stopped (.inl ⟨rfl, .inl rfl⟩) rfl rfl rfl

/-- Settles O15: every effect keeps the law, and so does every step. -/
theorem stepKeepsLinkLaw : Obligations.StepKeepsLinkLaw := fun _ _ =>
  step_keeps (fun _ _ _ _ _ h => h) (fun _ _ _ _ _ h => h) (fun _ _ => Effect.keeps_linkLaw)

end Sys2Proof.Machine

/-! PROOF. The host port's law (R9, Table 1.4) and the law of fencing (R8): what the port holds in each of its states, and what of its
making is in memory. -/

namespace Sys2Proof.Machine

open Sys2Proof

set_option Elab.async false

/-! ## Whose transaction is in memory is changed by grants, completions and timeouts only (R18) -/

section
variable (s : State)

@[simp] theorem State.sweepFall_mem_use : s.sweepFall.mem.use = s.mem.use := by rw [State.sweepFall_mem]
@[simp] theorem State.retestHost_mem_use : s.retestHost.mem.use = s.mem.use := by rw [State.retestHost_mem]
@[simp] theorem State.announceRise_mem_use : s.announceRise.mem.use = s.mem.use := by simp [State.announceRise]
@[simp] theorem State.releaseClaim_mem_use : s.releaseClaim.mem.use = s.mem.use := by
  unfold State.releaseClaim
  split <;> simp
@[simp] theorem State.withdrawRequest_mem_use : s.withdrawRequest.mem.use = s.mem.use := by rw [State.withdrawRequest_mem]
@[simp] theorem State.sessionEnd_mem_use : s.sessionEnd.mem.use = s.mem.use := by rw [State.sessionEnd_mem]
@[simp] theorem State.departUp_mem_use (dest : LinkState) : (s.departUp dest).mem.use = s.mem.use := by rw [State.departUp_frame]
@[simp] theorem State.loseLink_mem_use : s.loseLink.mem.use = s.mem.use := by rw [State.loseLink_frame]
@[simp] theorem State.localHalt_mem_use (r : HaltReason) : (s.localHalt r).mem.use = s.mem.use := by rw [State.localHalt_frame_any]
@[simp] theorem State.haltReceived_mem_use (r : HaltReason) : (s.haltReceived r).mem.use = s.mem.use := by rw [State.haltReceived_frame]
@[simp] theorem State.countHostGrant_mem_use : s.countHostGrant.mem.use = s.mem.use := by rw [State.countHostGrant_frame]
@[simp] theorem State.endPromotion_mem_use : s.endPromotion.mem.use = s.mem.use := by
  unfold State.endPromotion
  split <;> rfl

@[simp] theorem State.remove_mem_use (n : Nat) : (s.remove n).mem.use = s.mem.use := by
  unfold State.remove
  split
  · rfl
  · rw [State.waterTest_mem, State.announceRise_mem_use, removeHead_frame]

@[simp] theorem State.acceptNak_mem_use (d : Nat) : (s.acceptNak d).mem.use = s.mem.use := by
  unfold State.acceptNak
  dsimp only
  split
  · split <;> simp
  · simp

@[simp] theorem State.stopSweep_mem_use : s.stopSweep.mem.use = s.mem.use := by
  unfold State.stopSweep
  split
  · rfl
  · rfl
  · rfl
  · simp
  · split
    · simp
    · rfl

end

/-- A grant to the host port finds its request standing and the memory port free (R18). -/
theorem State.of_hostGrantable {s : State} (h : s.hostGrantable = true) :
    s.host.state = .portWait ∧ s.host.txn.isSome = true ∧ s.mem.use = none := by
  simp only [State.hostGrantable, Bool.and_eq_true, beq_iff_eq, Option.isNone_iff_eq_none] at h
  obtain ⟨⟨⟨hstate, htxn⟩, huse⟩, -⟩ := h
  exact ⟨hstate, htxn, huse⟩

/-- The port takes a transaction in IDLE only (R1). -/
theorem State.of_hostReady {s : State} (h : s.hostReady = true) : s.host.state = .idle := by
  simp only [State.hostReady, Bool.and_eq_true, beq_iff_eq] at h
  exact h.1

theorem State.releaseClaim_host {s : State} (h : s.host.state = .portWait) : s.releaseClaim.host = { s.host with claim := false } := by
  cases hc : s.host.claim with
  | true =>
    rw [State.releaseClaim, if_pos hc, State.announceRise_of_not_waiting _ (by simp [h]), State.sweepRise_host]
  | false =>
    rw [State.releaseClaim_of_no_claim hc, ← hc]

/-! ## The host port's law -/

section
variable {s : State}

theorem HostLaw.of_same {t : State} (h : HostLaw s) (hhost : t.host = s.host := by simp) (huse : t.mem.use = s.mem.use := by simp) :
    HostLaw t := by
  rw [HostLaw, hhost, MemPort.ownedBy, huse]
  exact h

/-- A port that is IDLE holds nothing, and nothing of its own is in memory. -/
theorem hostLaw_of_idle (hstate : s.host.state = .idle) (htxn : s.host.txn = none) (hclaim : s.host.claim = false)
    (htimer : s.host.timer = none) (huse : s.mem.ownedBy .host = false) : HostLaw s := by
  simp [HostLaw, hstate, htxn, hclaim, htimer, huse]

theorem hostLaw_of_portWait (hstate : s.host.state = .portWait) (htxn : s.host.txn ≠ none) (htimer : s.host.timer = none)
    (huse : s.mem.ownedBy .host = false) : HostLaw s := by
  simp [HostLaw, hstate, htxn, htimer, huse]

/-- Nothing of the port's own is in memory while it is in another state. -/
theorem HostLaw.not_owned (h : HostLaw s) (hstate : s.host.state ≠ .inMemory) : s.mem.ownedBy .host = false := by
  obtain ⟨-, -, -, hmem⟩ := h
  exact Bool.eq_false_iff.mpr fun howned => hstate (hmem.mpr howned)

theorem HostLaw.txn_ne_none (h : HostLaw s) (hstate : s.host.state ≠ .idle) : s.host.txn ≠ none := fun hnone => hstate (h.1.mpr hnone)

theorem HostLaw.no_timer (h : HostLaw s) (hs : s.host.state ≠ .spaceWait) (hh : s.host.state ≠ .syncHold) : s.host.timer = none := by
  obtain ⟨-, -, htimer, -⟩ := h
  rw [← Option.isNone_iff_eq_none, ← Option.not_isSome, Bool.not_eq_true']
  exact Bool.eq_false_iff.mpr fun hsome => (htimer.mp hsome).elim hs hh

theorem HostLaw.no_claim (h : HostLaw s) (hstate : s.host.state ≠ .portWait) : s.host.claim = false :=
  Bool.eq_false_iff.mpr fun hclaim => hstate (h.2.1 hclaim)

/-- The end of SPACE_WAIT (R9, R10). -/
theorem HostLaw.toPortWait (h : HostLaw s) (hstate : s.host.state = .spaceWait) (claim : Bool) : HostLaw (s.toPortWait claim) :=
  hostLaw_of_portWait rfl (h.txn_ne_none (by simp [hstate])) rfl (h.not_owned (by simp [hstate]))

theorem HostLaw.retestHost (h : HostLaw s) : HostLaw s.retestHost := by
  unfold State.retestHost
  split
  · next hstate _ _ =>
    split
    · exact h.toPortWait hstate false
    · exact (h.toPortWait hstate true).of_same
    · exact h.toPortWait hstate false
    · exact h
    · exact h
  · exact h

theorem HostLaw.announceRise (h : HostLaw s) : HostLaw s.announceRise := h.retestHost.of_same (t := s.retestHost.sweepRise)

/-- An answer ends a transaction that is not in memory (R1, R9). -/
theorem HostLaw.answer (h : HostLaw s) (hstate : s.host.state ≠ .inMemory) (a : HostAnswer) : HostLaw (s.answer a) :=
  hostLaw_of_idle rfl rfl rfl rfl (h.not_owned hstate)

theorem HostLaw.releaseHold (h : HostLaw s) : HostLaw s.releaseHold := by
  unfold State.releaseHold
  split
  · next hstate => exact h.answer (by simp [hstate]) _
  · exact h
  · exact h

theorem HostLaw.sessionEnd (h : HostLaw s) : HostLaw s.sessionEnd := by
  have hcleared : HostLaw s.sessionCleared :=
    HostLaw.releaseHold (h.of_same (t := { (s.setFlags (s.journal.records.filterMap Record.block?)).failMarkers with
      journal := { s.journal with records := [] } }))
  rw [State.sessionEnd_eq]
  refine HostLaw.of_same (HostLaw.retestHost (hcleared.of_same (t := s.sessionCleared.sweepLinkDown) ?_ ?_))
  · simp
  · rw [State.sweepLinkDown_mem]

theorem HostLaw.departUp (h : HostLaw s) (dest : LinkState) : HostLaw (s.departUp dest) := by
  simp only [State.departUp]
  split
  · exact HostLaw.sessionEnd (s := s.setLink dest) h
  · exact h

theorem HostLaw.loseLink (h : HostLaw s) : HostLaw s.loseLink := by
  have hleft := h.departUp .training
  exact hleft

theorem HostLaw.localHalt (h : HostLaw s) (r : HaltReason) : HostLaw (s.localHalt r) := by
  unfold State.localHalt
  split
  · exact HostLaw.departUp (s := s.dueHalt r) h _
  · exact h
  · exact h

theorem HostLaw.handOff (h : HostLaw s) (r : Record) : HostLaw (s.handOff r) := by
  unfold State.handOff
  split
  · rw [State.markerReached_frame]
    exact h
  · split
    · exact h.releaseHold
    · exact h

theorem HostLaw.removeHead (h : HostLaw s) (n : Nat) : HostLaw (removeHead n s) := by
  induction n generalizing s with
  | zero => exact h
  | succ n ih =>
    unfold Machine.removeHead
    split
    · exact h
    · exact ih (HostLaw.handOff (by exact h) _)

theorem HostLaw.remove (h : HostLaw s) (n : Nat) : HostLaw (s.remove n) := by
  cases n with
  | zero => exact h
  | succ n => exact (h.removeHead (n + 1)).announceRise.of_same (t := (Machine.removeHead (n + 1) s).announceRise.waterTest)

theorem HostLaw.acceptNak (h : HostLaw s) (d : Nat) : HostLaw (s.acceptNak d) := by
  have hremoved := h.remove (s.journal.nakRemoves d)
  unfold State.acceptNak
  dsimp only
  split
  · split
    · exact hremoved
    · exact hremoved
  · exact hremoved.of_same

/-- A forwarded transaction is the port's own in memory (R13). -/
theorem hostLaw_forward (htxn : s.host.txn.isSome = true) (hclaim : s.host.claim = false)
    (htimer : s.host.timer = none) (t : BusTxn) : HostLaw (s.forward t) := by
  have hsome : s.host.txn ≠ none := Option.isSome_iff_ne_none.mp htxn
  simp [HostLaw, MemPort.ownedBy, State.forward, State.startMemory, hclaim, htimer, hsome]

/-- A grant that first releases a claim, and then changes nothing of the port. -/
theorem HostLaw.forward (h : HostLaw s) (hgrant : s.hostGrantable = true) {u : State} {bound : Bool}
    (hhost : u.host = { s.host with claim := false, bound := bound }) (t : BusTxn) : HostLaw (u.forward t) := by
  obtain ⟨hstate, htxn, -⟩ := State.of_hostGrantable hgrant
  refine hostLaw_forward ?_ ?_ ?_ t <;> rw [hhost]
  · exact htxn
  · exact h.no_timer (by simp [hstate]) (by simp [hstate])

theorem HostLaw.freePort (h : HostLaw s) {u : PortUse} (huse : s.mem.use = some u) (hown : u.owner ≠ .host) : HostLaw s.freePort := by
  obtain ⟨hidle, hclaim, htimer, hmem⟩ := h
  refine ⟨hidle, hclaim, htimer, hmem.trans ?_⟩
  simp [MemPort.ownedBy, huse, hown]

/-- A part of another owner's in memory, in place of none or of that owner's own. -/
theorem HostLaw.of_use {t : State} (h : HostLaw s) (hs : s.mem.ownedBy .host = false) (ht : t.mem.ownedBy .host = false)
    (hhost : t.host = s.host := by simp) : HostLaw t := by
  rw [HostLaw, hhost, ht, ← hs]
  exact h

theorem State.ownedBy_host_of_sweepRead {current : Bool} (hread : s.sweepReadInMemory current = true) : s.mem.ownedBy .host = false := by
  simp only [State.sweepReadInMemory, Bool.and_eq_true] at hread
  obtain ⟨howned, -⟩ := hread
  cases huse : s.mem.use with
  | none => simp [MemPort.ownedBy, huse]
  | some u =>
    have hsweep : u.owner = .sweep := by simpa [huse] using howned
    simp [MemPort.ownedBy, huse, hsweep]

theorem State.ownedBy_host_of_apply (happly : s.applyInMemory = true) : s.mem.ownedBy .host = false := by
  cases huse : s.mem.use with
  | none => simp [MemPort.ownedBy, huse]
  | some u =>
    have hown : u.owner = .apply := by simpa [State.applyInMemory, huse] using happly
    simp [MemPort.ownedBy, huse, hown]

theorem HostLaw.leavePrimary (h : HostLaw s) : HostLaw s.leavePrimary := by
  have hlink : HostLaw s.linkLeavePrimary := by
    unfold State.linkLeavePrimary
    dsimp only
    split
    · exact HostLaw.departUp (s := s.dueHalt _) h _
    · exact h
  refine HostLaw.of_same (s := { s.linkLeavePrimary with
    host := s.linkLeavePrimary.host.leavePrimary, mem := s.linkLeavePrimary.mem.abandonSweep }) ?_ ?_ ?_
  · obtain ⟨hidle, hclaim, htimer, hmem⟩ := hlink
    have howned : s.linkLeavePrimary.mem.abandonSweep.ownedBy .host = s.linkLeavePrimary.mem.ownedBy .host := by
      unfold MemPort.abandonSweep
      split
      · next u huse =>
        split
        · next hown => simp [MemPort.ownedBy, huse, hown]
        · rfl
      · rfl
    rw [HostLaw, howned]
    cases hstate : s.linkLeavePrimary.host.state <;> simp_all [HostPort.leavePrimary]
  · simp [State.leavePrimary]
  · simp [State.leavePrimary]

theorem HostLaw.softReset (h : HostLaw s) : HostLaw s.softReset := by
  have howned : s.mem.abandonOwn.ownedBy .host = s.mem.ownedBy .host := by
    unfold MemPort.abandonOwn
    split
    · next u huse => split <;> simp [MemPort.ownedBy, *]
    · rfl
  show HostLaw { s with host := s.host.softReset, mem := s.mem.abandonOwn }
  rw [HostLaw, howned]
  obtain ⟨hidle, hclaim, htimer, hmem⟩ := h
  cases hstate : s.host.state <;> simp_all [HostPort.softReset, HostPort.idle]

theorem HostLaw.afterParam (h : HostLaw s) (p : Param) (v : BitVec 32) : HostLaw (s.afterParam p v) := by
  unfold State.afterParam
  split
  · exact h.of_same
  · exact h.of_same
  · split
    · exact h.of_same
    · exact h
  · exact h

theorem HostLaw.stopSweep (h : HostLaw s) : HostLaw s.stopSweep := by
  unfold State.stopSweep
  split
  · exact h
  · exact h
  · exact h
  · exact HostLaw.retestHost (h.of_same (t := s.remarkCopy.endCopy .stopped))
  · split
    · exact HostLaw.retestHost (h.of_same (t := s.remarkCopy.withdrawRequest.endCopy .stopped))
    · exact h

end

theorem Effect.keeps_hostLaw {s t : State} (heff : Effect s t) (h : HostLaw s) : HostLaw t := by
  cases heff with
  | unchanged | ownFields | counters => exact h
  | passes t hready | admitted t b hready =>
    exact hostLaw_of_portWait rfl nofun rfl (h.not_owned (by simp [State.of_hostReady hready]))
  | misaligned hready | fenced hready => exact h.answer (by simp [State.of_hostReady hready]) .fault
  | claimed t b hready =>
    have hwaits : HostLaw { s with host := { s.admittedPort t b with claim := true } } :=
      hostLaw_of_portWait rfl nofun rfl (h.not_owned (by simp [State.of_hostReady hready]))
    exact hwaits.of_same
  | marked t b hready =>
    have hwaits : HostLaw { s with host := s.admittedPort t b } :=
      hostLaw_of_portWait rfl nofun rfl (h.not_owned (by simp [State.of_hostReady hready]))
    exact hwaits.of_same
  | stalled t b hready =>
    have hfree := h.not_owned (by simp [State.of_hostReady hready])
    simp [HostLaw, State.admittedPort, HostPort.idle, hfree]
  | initDrops hwaits =>
    exact hostLaw_of_idle rfl rfl rfl rfl (h.not_owned (by rcases hwaits with hw | hw <;> simp [hw]))
  | initReleases hwaits =>
    have hdropped : HostLaw s.dropHost := hostLaw_of_idle rfl rfl rfl rfl (h.not_owned (by simp [hwaits]))
    exact hdropped.of_same
  | initAbandons =>
    refine hostLaw_of_idle rfl rfl rfl rfl ?_
    cases huse : s.mem.use with
    | none => simp [MemPort.ownedBy, MemPort.abandonHost, huse]
    | some u => by_cases hown : u.owner = .host <;> simp [MemPort.ownedBy, MemPort.abandonHost, huse, hown]
  | initEndsHold hhold => exact hostLaw_of_idle rfl rfl rfl rfl (h.not_owned (by simp [hhold]))
  | forwarded t htxn hgrant =>
    exact h.forward hgrant (bound := s.host.bound)
      (by rw [State.releaseClaim_host (by simp [(State.of_hostGrantable hgrant).1]), State.countHostGrant_host]) t
  | dirtied t ds htxn hgrant =>
    exact h.forward hgrant (bound := s.host.bound)
      (by rw [State.markDirty_host, State.releaseClaim_host (by simp [(State.of_hostGrantable hgrant).1]), State.countHostGrant_host]) t
  | merged t bound htxn hgrant =>
    exact h.forward hgrant (bound := bound) (State.releaseClaim_host
      (s := { s.countHostGrant.changeTail (Record.merge t bound) with host := { s.host with bound := bound } })
      (State.of_hostGrantable hgrant).1) t
  | appended t bound b htxn hgrant => exact h.forward hgrant (bound := bound) (by simp) t
  | grantFenced hgrant =>
    exact HostLaw.answer (h.of_same (t := s.countHostGrant)) (by simp [(State.of_hostGrantable hgrant).1]) .fault
  | hostHeld u huse hown =>
    have hmem : s.host.state = .inMemory := h.2.2.2.mpr (by simp [MemPort.ownedBy, huse, hown])
    simp [HostLaw, MemPort.ownedBy, h.txn_ne_none (by simp [hmem]), h.no_claim (by simp [hmem])]
  | hostDone | hostTimedOut => 
    exact hostLaw_of_idle (by simp [HostPort.idle]) (by simp [HostPort.idle]) (by simp [HostPort.idle]) (by simp [HostPort.idle])
      (by simp [MemPort.ownedBy])
  | hostDiscarded u huse hown => exact h.freePort huse (by simp [hown])
  | abandonedTimedOut u ds huse hown => exact (h.freePort huse (by simp [hown])).of_same
  | spaceExpired n hwait => exact (h.toPortWait hwait false).of_same
  | holdExpired hhold => exact hostLaw_of_idle rfl rfl rfl rfl (h.not_owned (by simp [hhold]))
  | selected b => exact (HostLaw.retestHost (h.of_same (t := s.select b))).of_same
  | sweepGranted c hc hgrant =>
    have hfree : s.mem.use = none := by
      simp only [State.sweepGrantable, Bool.and_eq_true, Option.isNone_iff_eq_none] at hgrant
      exact hgrant.1.2
    rw [State.beginSweepRead_eq]
    exact h.of_use (by simp [MemPort.ownedBy, hfree]) (by simp [MemPort.ownedBy])
  | readStopped c data hc hread =>
    have hread' : HostLaw (s.readFilled data) := h.of_use (State.ownedBy_host_of_sweepRead hread) rfl
    exact (HostLaw.retestHost (hread'.of_same (t := (s.readFilled data).stopCopy))).of_same
  | readAdvanced c data hc hread =>
    have hread' : HostLaw (s.readFilled data) := h.of_use (State.ownedBy_host_of_sweepRead hread) rfl
    exact (HostLaw.retestHost (hread'.of_same (t := (s.readFilled data).advanceCopy c))).of_same
  | readTimedOut hread =>
    have hread' : HostLaw s.endSweepRead := h.of_use (State.ownedBy_host_of_sweepRead hread) rfl
    exact (HostLaw.announceRise (hread'.of_same
      (t := s.endSweepRead.withdrawPlaceholder.remarkCopy.afterReadTimeout s.sweep.stopPending))).of_same
  | orphanEnded hread => exact h.of_use (State.ownedBy_host_of_sweepRead hread) rfl
  | repeated | kept | resent | frameEnded | heard | helloTested | startTested | startRepeated | dataTaken | nakCounted =>
    exact h.of_same
  | silent => exact h.loseLink.of_same
  | exhausted => exact (HostLaw.localHalt (s := s.rewoundForRetry) h .retryExhausted).of_same
  | helloInUp => exact (HostLaw.loseLink (s := s.restartSilence) h).of_same
  | startInUp => exact (HostLaw.loseLink (s := s.restartSilence) h).of_same
  | ready => exact h.of_same
  | acked n => exact (HostLaw.remove (s := s.restartSilence) h n).of_same
  | naked d => exact (HostLaw.acceptNak (s := s.restartSilence.bump .naksReceived) h d).of_same
  | halted r =>
    have hleft : HostLaw (s.restartSilence.haltReceived r) := HostLaw.departUp (s := s.restartSilence) h .halted
    exact hleft.of_same
  | applyGranted t n hgrant =>
    have hfree : s.mem.use = none := by
      simp only [State.applyGrantable, Bool.and_eq_true, Option.isNone_iff_eq_none] at hgrant
      exact hgrant.1.2
    exact h.of_use (by simp [MemPort.ownedBy, hfree]) (by simp [MemPort.ownedBy])
  | applyContinued t ts huse | applied huse =>
    exact h.of_use (State.ownedBy_host_of_apply huse) (by simp [MemPort.ownedBy])
  | applyFaults huse | promotionFaults huse =>
    have hfaulted : HostLaw s.applyFaulted := h.of_use (State.ownedBy_host_of_apply huse) rfl
    exact (hfaulted.localHalt .applyFault).of_same
  | regionWritten => exact h
  | paramWritten p v => exact HostLaw.afterParam (by exact h) p v
  | becamePrimary => exact h.of_same (by simp [State.becomePrimary]) (by simp [State.becomePrimary])
  | becameReplica => exact h.of_same (by simp [State.becomeReplica]) (by simp [State.becomeReplica])
  | leftPrimary => exact h.leavePrimary
  | repairStarted => exact h.of_same
  | repairStopped => exact h.stopSweep.of_same
  | markerPlaced => exact h.of_same (by simp [State.placeMarker]) (by simp [State.placeMarker])
  | markersRead => exact h
  | relinked => exact h.of_same
  | promoted =>
    refine h.of_same ?_ ?_
    · rw [State.beginPromotion, State.finish_host, State.endPromotion_host]
      split <;> split <;> rfl
    · rw [State.beginPromotion, State.finish_mem, State.endPromotion_mem_use]
      split <;> split <;> rfl
  | faultCleared | alertsRead | alertsAcked | alertsEnabled => exact h
  | softReset => exact h.softReset
  | powerOnReset => exact hostLaw_of_idle rfl rfl rfl rfl rfl

/-- Settles O14: every effect keeps the law, and so does every step. -/
theorem stepKeepsHostLaw : Obligations.StepKeepsHostLaw := fun _ _ =>
  step_keeps (fun _ _ _ _ _ h => h) (fun _ _ _ _ _ h => h) (fun _ _ => Effect.keeps_hostLaw)

end Sys2Proof.Machine

/-! PROOF. The law of fencing (R8): what decides it is the role, the host's transaction in memory, the region table and the window base. -/

namespace Sys2Proof.Machine

open Sys2Proof

set_option Elab.async false

/-- The roles in which host writes to mirrored blocks are fenced (R8). -/
def Role.fences (r : Role) : Bool := r == .replica || r == .promoting

theorem Role.fences_iff (r : Role) : r.fences = true ↔ r = .replica ∨ r = .promoting := by simp [Role.fences]

theorem State.hostUse_congr {s t : State} (h : t.mem.use = s.mem.use) : t.hostUse = s.hostUse := by rw [State.hostUse, State.hostUse, h]

/-- A port that another owner's transaction takes, or that stands free, holds none of the host's making. -/
theorem State.hostUse_of_not_host {s : State} (h : ∀ u ∈ s.mem.use, u.owner = .sweep ∨ u.owner = .apply) : s.hostUse = none := by
  cases huse : s.mem.use with
  | none => simp [State.hostUse, huse]
  | some u => rcases h u (by simp [huse]) with hown | hown <;> simp [State.hostUse, huse, hown]

section
variable {s : State}

theorem FenceLaw.of_kept {t : State} (h : FenceLaw s) (huse : ∀ x ∈ t.hostUse, x ∈ s.hostUse)
    (hrole : t.role.fences = true → s.role.fences = true := by simp) (hregions : t.regions = s.regions := by simp)
    (hbase : t.params.windowBase = s.params.windowBase := by simp) : FenceLaw t := by
  intro ht x hx
  have hs : s.touchedMirrored x = [] := h ((Role.fences_iff _).mp (hrole ((Role.fences_iff _).mpr ht))) x (huse x hx)
  rw [State.touchedMirrored, hregions, hbase]
  exact hs

theorem FenceLaw.of_same {t : State} (h : FenceLaw s) (huse : t.mem.use = s.mem.use := by simp)
    (hrole : t.role.fences = true → s.role.fences = true := by simp) (hregions : t.regions = s.regions := by simp)
    (hbase : t.params.windowBase = s.params.windowBase := by simp) : FenceLaw t :=
  h.of_kept (by simp [State.hostUse_congr huse]) hrole hregions hbase

/-- Nothing is fenced on a Standalone part and on a Primary. -/
theorem fenceLaw_of_role (hrole : s.role.fences = false) : FenceLaw s :=
  fun h => absurd ((Role.fences_iff _).mpr h) (by simp [hrole])

theorem fenceLaw_of_no_use (h : s.hostUse = none) : FenceLaw s := fun _ x hx => by simp [h] at hx

theorem fenceLaw_of_primary (hrole : s.role = .primary) : FenceLaw s := fenceLaw_of_role (by rw [hrole]; rfl)

theorem fenceLaw_of_standalone (hrole : s.role = .standalone) : FenceLaw s := fenceLaw_of_role (by rw [hrole]; rfl)

/-- The end of a promotion leaves a Standalone part, or nothing changed. -/
theorem FenceLaw.endPromotion (h : FenceLaw s) : FenceLaw s.endPromotion := by
  unfold State.endPromotion
  split
  · exact fenceLaw_of_standalone rfl
  · exact h

theorem FenceLaw.afterParam (h : FenceLaw s) (p : Param) (v : BitVec 32) : FenceLaw (s.afterParam p v) := by
  unfold State.afterParam
  split
  · exact h.of_same
  · exact h.of_same
  · split
    · exact h.of_same
    · exact h
  · exact h

/-- WINDOW_BASE is written on a Standalone part only (R164). -/
theorem FenceLaw.putParam (h : FenceLaw s) {p : Param} (hrole : s.paramWritable p = true) (v : BitVec 32) :
    FenceLaw { s with params := s.params.put p v } := by
  by_cases hp : p = .windowBase
  · subst hp
    exact fenceLaw_of_standalone (by simpa [State.paramWritable] using hrole)
  · refine h.of_same rfl (by simp) rfl ?_
    cases p with
    | windowBase => exact absurd rfl hp
    | _ => rfl

end

/-- The part that a PROMOTE leaves before the promotion is tested for its end (R132). -/
def State.promotionBegun (s : State) : State :=
  let link := ((if s.linkUp then s.dueHalt .promoted else s).setLink .off).link
  let begun : State := { s with role := .promoting, link := { link with continuity := false } }
  if s.apply.state = .fault then begun.discardQueue else begun

theorem State.beginPromotion_eq (s : State) : s.beginPromotion = s.promotionBegun.endPromotion.finish := by
  unfold State.beginPromotion State.promotionBegun
  dsimp only
  cases hup : s.link.state == .up
  all_goals
    simp only [State.linkUp, hup]
    rfl

theorem State.promotionBegun_frame (s : State) :
    s.promotionBegun =
      { s with role := .promoting, link := s.promotionBegun.link, receiver := s.promotionBegun.receiver, apply := s.promotionBegun.apply } := by
  unfold State.promotionBegun
  dsimp only
  split <;> rfl

theorem Effect.keeps_fenceLaw {s t : State} (heff : Effect s t) (h : FenceLaw s) : FenceLaw t := by
  cases heff with
  | unchanged | ownFields | counters | passes | misaligned | fenced | admitted | stalled => exact h
  | claimed t b => exact FenceLaw.of_same (s := { s with host := { s.admittedPort t b with claim := true } }) h
  | marked t b hready hrole => exact fenceLaw_of_primary (by simpa using hrole)
  | initDrops | initReleases | initEndsHold => exact h.of_same
  | initAbandons =>
    refine h.of_kept ?_
    cases huse : s.mem.use with
    | none => simp [State.hostUse, MemPort.abandonHost, huse]
    | some u => cases hown : u.owner <;> simp [State.hostUse, MemPort.abandonHost, huse, hown]
  | forwarded t htxn hgrant hfence =>
    rintro hrole x hx
    obtain rfl : t = x := by simpa [State.hostUse, State.forward, State.startMemory] using hx
    have hfree : s.touchedMirrored t = [] := by
      rcases hfence with hs | hp | hfree
      · simp [hs] at hrole
      · simp [hp] at hrole
      · exact hfree
    simpa [State.touchedMirrored] using hfree
  | dirtied t ds htxn hgrant hrole => exact fenceLaw_of_primary (by simpa using hrole)
  | merged t bound htxn hgrant hrole => exact fenceLaw_of_primary (by simpa using hrole)
  | appended t bound b htxn hgrant hrole => exact fenceLaw_of_primary (by simpa using hrole)
  | grantFenced => exact h.of_same
  | hostHeld | hostDone | hostDiscarded | hostTimedOut | abandonedTimedOut =>
    exact h.of_kept (by simp [State.hostUse])
  | spaceExpired | holdExpired | selected => exact h.of_same
  | sweepGranted c =>
    refine fenceLaw_of_no_use (State.hostUse_of_not_host ?_)
    simp [State.beginSweepRead_eq]
  | readStopped | readAdvanced => exact h.of_kept (by simp [State.hostUse, State.readFilled])
  | readTimedOut | orphanEnded => exact h.of_kept (by simp [State.hostUse])
  | repeated | kept | silent | resent | exhausted | frameEnded | heard | helloTested | helloInUp | startTested | startRepeated
  | startInUp | ready | dataTaken | acked | nakCounted | naked | halted => exact h.of_same
  | applyGranted t n =>
    refine fenceLaw_of_no_use (State.hostUse_of_not_host ?_)
    simp
  | applyContinued => exact h.of_kept (by simp [State.hostUse])
  | applied =>
    exact FenceLaw.of_same (FenceLaw.endPromotion (s := s.freePort.applyHead) (h.of_kept (by simp [State.hostUse])))
  | applyFaults => exact h.of_kept (by simp [State.hostUse, State.applyFaulted])
  | promotionFaults =>
    refine FenceLaw.of_same (FenceLaw.endPromotion (s := (s.applyFaulted.localHalt .applyFault).discardQueue) ?_)
    exact h.of_kept (by simp [State.hostUse, State.applyFaulted])
  | regionWritten index r hrole => exact fenceLaw_of_standalone hrole
  | paramWritten p v hrange hrole => exact (h.putParam hrole v).afterParam p v
  | becamePrimary => exact fenceLaw_of_primary (by simp [State.becomePrimary])
  | becameReplica hrole hfree =>
    intro _ x hx
    have hx' : x ∈ s.hostUse := by simpa [State.hostUse, State.becomeReplica] using hx
    have hnone : s.touchedMirrored x = [] := by
      rw [State.hostWriteToMirrored, Option.mem_def.mp hx'] at hfree
      simpa using hfree
    simpa [State.touchedMirrored, State.becomeReplica] using hnone
  | leftPrimary => exact fenceLaw_of_standalone (by simp [State.leavePrimary])
  | repairStarted | repairStopped => exact h.of_same
  | markerPlaced =>
    unfold State.placeMarker
    exact h.of_same
  | markersRead => exact h
  | relinked => exact h.of_same
  | promoted hrole =>
    have hheld : FenceLaw { s with role := .promoting } := h.of_same rfl (by simp [hrole, Role.fences])
    rw [State.beginPromotion_eq]
    refine FenceLaw.of_same (FenceLaw.endPromotion (s := s.promotionBegun) ?_)
    rw [State.promotionBegun_frame]
    exact hheld
  | faultCleared | alertsRead | alertsAcked | alertsEnabled => exact h
  | softReset => exact fenceLaw_of_standalone rfl
  | powerOnReset => exact fenceLaw_of_standalone rfl

/-- Settles O9: every effect keeps the law, and so does every step. -/
theorem stepKeepsFenceLaw : Obligations.StepKeepsFenceLaw := fun _ _ =>
  step_keeps (fun _ _ _ _ _ h => h) (fun _ _ _ _ _ h => h) (fun _ _ => Effect.keeps_fenceLaw)

end Sys2Proof.Machine

/-! PROOF. The capacity law (R31, R32): records and claim within the journal's slots, and the margin of a standing sweep request. Before
it, what the transmitter and the hand-offs do to the journal's records. -/

namespace Sys2Proof.Machine

open Sys2Proof

set_option Elab.async false

/-! ## What of a record the sender never changes -/

/-- A record's fields but for the sender's: the body, the sync waiter, and whether it still waits for its data (Table 2.1). -/
def Record.contents (r : Record) : RecBody × Bool × Bool := (r.body, r.waiter, r.state == .filling)

/-- What depends on the contents alone goes through a list as the contents do. -/
theorem map_eq_of_contents {α : Type} {f : Record → α} (hf : ∀ r x : Record, r.contents = x.contents → f r = f x) {rs xs : List Record}
    (h : rs.map Record.contents = xs.map Record.contents) : rs.map f = xs.map f := by
  induction rs generalizing xs with
  | nil =>
    obtain rfl : xs = [] := by simpa using h.symm
    rfl
  | cons r rest ih =>
    cases xs with
    | nil => simp at h
    | cons x more =>
      simp only [List.map_cons, List.cons.injEq] at h ⊢
      exact ⟨hf r x h.1, ih h.2⟩

theorem resendFirst_contents {rs rs' : List Record} {r : Record} (h : resendFirst rs = some (r, rs')) :
    rs'.map Record.contents = rs.map Record.contents := by
  induction rs generalizing r rs' with
  | nil => simp [resendFirst] at h
  | cons x rest ih =>
    unfold resendFirst at h
    split at h
    · next hx =>
      obtain ⟨rfl, rfl⟩ : r = x ∧ rs' = { x with state := .sent } :: rest := by simpa [eq_comm] using h
      have hstate : (RecState.sent == RecState.filling) = (r.state == RecState.filling) :=
        hx.symm ▸ (by decide : (RecState.sent == RecState.filling) = (RecState.resend == RecState.filling))
      simp only [List.map_cons, Record.contents, hstate]
    · obtain ⟨p, hp, hrs⟩ := Option.map_eq_some_iff.mp h
      obtain ⟨rfl, rfl⟩ : p.1 = r ∧ x :: p.2 = rs' := by simpa using hrs
      simp [ih hp]

theorem sendFirst_contents {n : SeqNo} {rs rs' : List Record} {r : Record} (h : sendFirst n rs = some (r, rs')) :
    rs'.map Record.contents = rs.map Record.contents := by
  induction rs generalizing r rs' with
  | nil => simp [sendFirst] at h
  | cons x rest ih =>
    unfold sendFirst at h
    split at h
    · next hx =>
      obtain ⟨rfl, rfl⟩ : r = x ∧ rs' = { x with state := .sent, seq := some n } :: rest := by simpa [eq_comm] using h
      have hstate : (RecState.sent == RecState.filling) = (r.state == RecState.filling) :=
        hx.symm ▸ (by decide : (RecState.sent == RecState.filling) = (RecState.queued == RecState.filling))
      simp only [List.map_cons, Record.contents, hstate]
    · simp at h
    · obtain ⟨p, hp, hrs⟩ := Option.map_eq_some_iff.mp h
      obtain ⟨rfl, rfl⟩ : p.1 = r ∧ x :: p.2 = rs' := by simpa using hrs
      simp [ih hp]

theorem State.recordSent_records (rs : List Record) (s : State) : (s.recordSent rs).journal.records = rs := by
  unfold State.recordSent
  dsimp only
  split <;> rfl

theorem State.dataFrame_contents {s t : State} {f : LinkFrame} (h : s.dataFrame = some (f, t)) :
    t.journal.records.map Record.contents = s.journal.records.map Record.contents := by
  unfold State.dataFrame at h
  split at h
  · simp at h
  · split at h
    · next r rs hr =>
      obtain ⟨-, rfl⟩ : _ ∧ _ = t := by simpa using h
      exact resendFirst_contents hr
    · split at h
      · simp at h
      · obtain ⟨p, hp, ht⟩ := Option.map_eq_some_iff.mp h
        obtain ⟨-, rfl⟩ : _ ∧ s.recordSent p.2 = t := by simpa using ht
        rw [State.recordSent_records]
        exact sendFirst_contents hp

/-- The transmitter takes a DATA frame from the journal, or changes its own frame and due flags alone (R78). -/
theorem State.kick_cases (s : State) :
    (∃ tx due, s.kick = { s with link := { s.link with tx := tx, due := due } }) ∨
    ∃ f t, s.dataFrame = some (f, t) ∧ s.kick = t.transmit f s.link.due := by
  unfold State.kick
  dsimp only
  split
  · exact .inl ⟨_, _, rfl⟩
  · split
    · exact .inl ⟨_, _, rfl⟩
    · split
      · exact .inl ⟨_, _, rfl⟩
      · split
        · exact .inl ⟨_, _, rfl⟩
        · split
          · exact .inl ⟨_, _, rfl⟩
          · split
            · exact .inl ⟨_, _, rfl⟩
            · split
              · exact .inl ⟨_, _, rfl⟩
              · split
                · next f t hf => exact .inr ⟨f, t, hf, rfl⟩
                · split
                  · exact .inl ⟨_, _, rfl⟩
                  · exact .inl ⟨_, _, rfl⟩

theorem State.kick_contents (s : State) : s.kick.journal.records.map Record.contents = s.journal.records.map Record.contents := by
  obtain ⟨_, _, h⟩ | ⟨f, t, hf, h⟩ := s.kick_cases
  · rw [h]
  · rw [h]
    exact State.dataFrame_contents (t := t) hf

@[simp] theorem State.kick_length (s : State) : s.kick.journal.records.length = s.journal.records.length := by
  simpa using congrArg List.length s.kick_contents

@[simp] theorem State.finish_length (s : State) : s.finish.journal.records.length = s.journal.records.length := by
  simp [State.finish]

@[simp] theorem State.waterTest_length (s : State) : s.waterTest.journal.records.length = s.journal.records.length := by
  rw [State.waterTest_records]

@[simp] theorem State.unbind_length (s : State) : s.unbind.journal.records.length = s.journal.records.length := by
  unfold State.unbind
  split
  · simp [State.clearWaiter]
  · rfl

/-- A change of the last record that leaves f as it was. -/
theorem map_changeLast {α : Type} {f : Record → α} {g : Record → Record} (hg : ∀ r, f (g r) = f r) (rs : List Record) :
    (changeLast g rs).map f = rs.map f := by
  induction rs with
  | nil => rfl
  | cons r rest ih =>
    cases rest with
    | nil => simp [changeLast, hg]
    | cons => simpa [changeLast] using ih

theorem length_changeLast (f : Record → Record) (rs : List Record) : (changeLast f rs).length = rs.length := by
  induction rs with
  | nil => rfl
  | cons r rest ih =>
    cases rest with
    | nil => rfl
    | cons => simpa [changeLast] using ih

/-! ## What a request to set flags changes of the sweep (R59): its state at most -/

section
variable (s : State)

theorem State.autoStart_sweep_state_only : s.autoStart.sweep = { s.sweep with state := s.autoStart.sweep.state } := by
  unfold State.autoStart
  split <;> rfl

theorem State.setFlags_sweep_state_only (bs : List Block) :
    (s.setFlags bs).sweep = { s.sweep with state := (s.setFlags bs).sweep.state } := by
  unfold State.setFlags
  split
  · rfl
  · dsimp only
    split
    · rw [State.autoStart_sweep_state_only]
    · rfl

theorem State.remarkCopy_sweep_state_only : s.remarkCopy.sweep = { s.sweep with state := s.remarkCopy.sweep.state } := by
  unfold State.remarkCopy
  split
  · rw [State.setFlags_sweep_state_only]
  · rfl

theorem State.markDirty_sweep_state_only (bs : List Block) :
    (s.markDirty bs).sweep = { s.sweep with state := (s.markDirty bs).sweep.state } := by
  unfold State.markDirty
  split
  · rfl
  · rw [State.derivePair_sweep, State.setFlags_sweep_state_only]

theorem State.timedOut_sweep_state_only (ds : List Block) : (s.timedOut ds).sweep = { s.sweep with state := (s.timedOut ds).sweep.state } := by
  unfold State.timedOut
  rw [State.markDirty_sweep_state_only]
  rfl

theorem State.withdrawPlaceholder_sweep_state_only :
    s.withdrawPlaceholder.sweep = { s.sweep with state := s.withdrawPlaceholder.sweep.state } := by
  unfold State.withdrawPlaceholder
  rw [State.setFlags_sweep_state_only]

theorem State.sweepLinkUp_sweep_state_only : s.sweepLinkUp.sweep = { s.sweep with state := s.sweepLinkUp.sweep.state } := by
  unfold State.sweepLinkUp
  split
  · split <;> rfl
  · rfl

@[simp] theorem State.autoStart_sweep_copy : s.autoStart.sweep.copy = s.sweep.copy := by rw [State.autoStart_sweep_state_only]
@[simp] theorem State.autoStart_sweep_request : s.autoStart.sweep.request = s.sweep.request := by rw [State.autoStart_sweep_state_only]
@[simp] theorem State.autoStart_sweep_read : s.autoStart.sweep.read = s.sweep.read := by rw [State.autoStart_sweep_state_only]
@[simp] theorem State.autoStart_sweep_stopPending : s.autoStart.sweep.stopPending = s.sweep.stopPending := by rw [State.autoStart_sweep_state_only]
@[simp] theorem State.autoStart_sweep_timeouts : s.autoStart.sweep.timeouts = s.sweep.timeouts := by rw [State.autoStart_sweep_state_only]
@[simp] theorem State.setFlags_sweep_copy (bs : List Block) : (s.setFlags bs).sweep.copy = s.sweep.copy := by rw [State.setFlags_sweep_state_only]
@[simp] theorem State.setFlags_sweep_request (bs : List Block) : (s.setFlags bs).sweep.request = s.sweep.request := by rw [State.setFlags_sweep_state_only]
@[simp] theorem State.setFlags_sweep_read (bs : List Block) : (s.setFlags bs).sweep.read = s.sweep.read := by rw [State.setFlags_sweep_state_only]
@[simp] theorem State.setFlags_sweep_stopPending (bs : List Block) : (s.setFlags bs).sweep.stopPending = s.sweep.stopPending := by rw [State.setFlags_sweep_state_only]
@[simp] theorem State.setFlags_sweep_timeouts (bs : List Block) : (s.setFlags bs).sweep.timeouts = s.sweep.timeouts := by rw [State.setFlags_sweep_state_only]
@[simp] theorem State.remarkCopy_sweep_copy : s.remarkCopy.sweep.copy = s.sweep.copy := by rw [State.remarkCopy_sweep_state_only]
@[simp] theorem State.remarkCopy_sweep_request : s.remarkCopy.sweep.request = s.sweep.request := by rw [State.remarkCopy_sweep_state_only]
@[simp] theorem State.remarkCopy_sweep_read : s.remarkCopy.sweep.read = s.sweep.read := by rw [State.remarkCopy_sweep_state_only]
@[simp] theorem State.remarkCopy_sweep_stopPending : s.remarkCopy.sweep.stopPending = s.sweep.stopPending := by rw [State.remarkCopy_sweep_state_only]
@[simp] theorem State.remarkCopy_sweep_timeouts : s.remarkCopy.sweep.timeouts = s.sweep.timeouts := by rw [State.remarkCopy_sweep_state_only]
@[simp] theorem State.markDirty_sweep_copy (bs : List Block) : (s.markDirty bs).sweep.copy = s.sweep.copy := by rw [State.markDirty_sweep_state_only]
@[simp] theorem State.markDirty_sweep_request (bs : List Block) : (s.markDirty bs).sweep.request = s.sweep.request := by rw [State.markDirty_sweep_state_only]
@[simp] theorem State.markDirty_sweep_read (bs : List Block) : (s.markDirty bs).sweep.read = s.sweep.read := by rw [State.markDirty_sweep_state_only]
@[simp] theorem State.markDirty_sweep_stopPending (bs : List Block) : (s.markDirty bs).sweep.stopPending = s.sweep.stopPending := by rw [State.markDirty_sweep_state_only]
@[simp] theorem State.markDirty_sweep_timeouts (bs : List Block) : (s.markDirty bs).sweep.timeouts = s.sweep.timeouts := by rw [State.markDirty_sweep_state_only]
@[simp] theorem State.timedOut_sweep_copy (ds : List Block) : (s.timedOut ds).sweep.copy = s.sweep.copy := by rw [State.timedOut_sweep_state_only]
@[simp] theorem State.timedOut_sweep_request (ds : List Block) : (s.timedOut ds).sweep.request = s.sweep.request := by rw [State.timedOut_sweep_state_only]
@[simp] theorem State.timedOut_sweep_read (ds : List Block) : (s.timedOut ds).sweep.read = s.sweep.read := by rw [State.timedOut_sweep_state_only]
@[simp] theorem State.timedOut_sweep_stopPending (ds : List Block) : (s.timedOut ds).sweep.stopPending = s.sweep.stopPending := by rw [State.timedOut_sweep_state_only]
@[simp] theorem State.timedOut_sweep_timeouts (ds : List Block) : (s.timedOut ds).sweep.timeouts = s.sweep.timeouts := by rw [State.timedOut_sweep_state_only]
@[simp] theorem State.withdrawPlaceholder_sweep_copy : s.withdrawPlaceholder.sweep.copy = s.sweep.copy := by rw [State.withdrawPlaceholder_sweep_state_only]
@[simp] theorem State.withdrawPlaceholder_sweep_request : s.withdrawPlaceholder.sweep.request = s.sweep.request := by rw [State.withdrawPlaceholder_sweep_state_only]
@[simp] theorem State.withdrawPlaceholder_sweep_read : s.withdrawPlaceholder.sweep.read = s.sweep.read := by rw [State.withdrawPlaceholder_sweep_state_only]
@[simp] theorem State.withdrawPlaceholder_sweep_stopPending : s.withdrawPlaceholder.sweep.stopPending = s.sweep.stopPending := by rw [State.withdrawPlaceholder_sweep_state_only]
@[simp] theorem State.withdrawPlaceholder_sweep_timeouts : s.withdrawPlaceholder.sweep.timeouts = s.sweep.timeouts := by rw [State.withdrawPlaceholder_sweep_state_only]
@[simp] theorem State.sweepLinkUp_sweep_copy : s.sweepLinkUp.sweep.copy = s.sweep.copy := by rw [State.sweepLinkUp_sweep_state_only]
@[simp] theorem State.sweepLinkUp_sweep_request : s.sweepLinkUp.sweep.request = s.sweep.request := by rw [State.sweepLinkUp_sweep_state_only]
@[simp] theorem State.sweepLinkUp_sweep_read : s.sweepLinkUp.sweep.read = s.sweep.read := by rw [State.sweepLinkUp_sweep_state_only]
@[simp] theorem State.sweepLinkUp_sweep_stopPending : s.sweepLinkUp.sweep.stopPending = s.sweep.stopPending := by rw [State.sweepLinkUp_sweep_state_only]
@[simp] theorem State.sweepLinkUp_sweep_timeouts : s.sweepLinkUp.sweep.timeouts = s.sweep.timeouts := by rw [State.sweepLinkUp_sweep_state_only]

end

/-! ## The departure from Primary (R140) -/

theorem State.linkLeavePrimary_frame (s : State) :
    s.linkLeavePrimary =
      { s with link := s.linkLeavePrimary.link, journal := s.linkLeavePrimary.journal, sender := s.linkLeavePrimary.sender,
               map := s.linkLeavePrimary.map, sweep := s.linkLeavePrimary.sweep, host := s.linkLeavePrimary.host,
               pair := s.linkLeavePrimary.pair, alert := s.linkLeavePrimary.alert,
               mem := { s.mem with sweepWait := s.linkLeavePrimary.mem.sweepWait } } := by
  unfold State.linkLeavePrimary
  dsimp only
  split
  · rw [State.departUp_frame]
    rfl
  · rfl

section
variable (s : State)

@[simp] theorem State.linkLeavePrimary_role : s.linkLeavePrimary.role = s.role := by rw [State.linkLeavePrimary_frame]
@[simp] theorem State.linkLeavePrimary_regions : s.linkLeavePrimary.regions = s.regions := by rw [State.linkLeavePrimary_frame]
@[simp] theorem State.linkLeavePrimary_params : s.linkLeavePrimary.params = s.params := by rw [State.linkLeavePrimary_frame]
@[simp] theorem State.linkLeavePrimary_receiver : s.linkLeavePrimary.receiver = s.receiver := by rw [State.linkLeavePrimary_frame]
@[simp] theorem State.linkLeavePrimary_apply : s.linkLeavePrimary.apply = s.apply := by rw [State.linkLeavePrimary_frame]
@[simp] theorem State.linkLeavePrimary_mgmt : s.linkLeavePrimary.mgmt = s.mgmt := by rw [State.linkLeavePrimary_frame]
@[simp] theorem State.linkLeavePrimary_counters : s.linkLeavePrimary.counters = s.counters := by rw [State.linkLeavePrimary_frame]

end

/-! ## The law -/

/-- The slots taken: the records and the claim (R31, R32). -/
def State.usedSlots (s : State) : Nat := s.journal.records.length + if s.host.claim then 1 else 0

theorem State.freeSlots_eq (s : State) : s.freeSlots = 256 - s.usedSlots := rfl

theorem capacityLaw_iff (s : State) :
    CapacityLaw s ↔ s.usedSlots ≤ 256 ∧ (s.sweep.request = true → 9 ≤ s.freeSlots) ∧ 8 ≤ s.params.journalReserve := Iff.rfl

theorem State.length_le_usedSlots (s : State) : s.journal.records.length ≤ s.usedSlots := Nat.le_add_right _ _

theorem State.usedSlots_le (s : State) : s.usedSlots ≤ s.journal.records.length + 1 := by
  unfold State.usedSlots
  split <;> omega

theorem State.usedSlots_le_of {s t : State} (hlen : t.journal.records.length ≤ s.journal.records.length)
    (hclaim : t.host.claim = true → s.host.claim = true) : t.usedSlots ≤ s.usedSlots := by
  unfold State.usedSlots
  cases ht : t.host.claim with
  | false => simp only [Bool.false_eq_true, if_false]; omega
  | true => simp only [hclaim ht, if_true]; omega

section
variable {s : State}

/-- Fewer slots taken, and no new request. -/
theorem CapacityLaw.of_le {t : State} (h : CapacityLaw s) (hused : t.usedSlots ≤ s.usedSlots)
    (hrequest : t.sweep.request = true → s.sweep.request = true := by simp)
    (hreserve : t.params.journalReserve = s.params.journalReserve := by simp) : CapacityLaw t := by
  rw [capacityLaw_iff, State.freeSlots_eq] at *
  obtain ⟨hfull, hmargin, hmin⟩ := h
  exact ⟨by omega, fun ht => by have := hmargin (hrequest ht); omega, by omega⟩

theorem CapacityLaw.of_same {t : State} (h : CapacityLaw s)
    (hlen : t.journal.records.length ≤ s.journal.records.length := by simp)
    (hclaim : t.host.claim = true → s.host.claim = true := by simp)
    (hrequest : t.sweep.request = true → s.sweep.request = true := by simp)
    (hreserve : t.params.journalReserve = s.params.journalReserve := by simp) : CapacityLaw t :=
  h.of_le (State.usedSlots_le_of hlen hclaim) hrequest hreserve

/-- One more slot taken while no request stands. -/
theorem capacityLaw_of_no_request (hused : s.usedSlots ≤ 256) (hreserve : 8 ≤ s.params.journalReserve)
    (hrequest : s.sweep.request = false) : CapacityLaw s :=
  (capacityLaw_iff s).mpr ⟨hused, by simp [hrequest], hreserve⟩

theorem CapacityLaw.used (h : CapacityLaw s) : s.usedSlots ≤ 256 := ((capacityLaw_iff s).mp h).1

theorem CapacityLaw.reserve (h : CapacityLaw s) : 8 ≤ s.params.journalReserve := ((capacityLaw_iff s).mp h).2.2

/-- R61: a fall of the free-slot count withdraws a request that has lost its margin. -/
theorem capacityLaw_sweepFall (hused : s.usedSlots ≤ 256) (hreserve : 8 ≤ s.params.journalReserve) : CapacityLaw s.sweepFall := by
  unfold State.sweepFall
  split
  · exact capacityLaw_of_no_request hused hreserve rfl
  · next hkeep =>
    refine (capacityLaw_iff s).mpr ⟨hused, fun hrequest => ?_, hreserve⟩
    have hmargin : ¬s.freeSlots ≤ s.params.journalReserve := fun hle => hkeep ⟨hrequest, hle⟩
    omega

/-- R61: a WAITING sweep places its request with the margin of JOURNAL_RESERVE. -/
theorem CapacityLaw.sweepRise (h : CapacityLaw s) : CapacityLaw s.sweepRise := by
  unfold State.sweepRise
  split
  · next hrise =>
    have hmargin : s.params.journalReserve < s.freeSlots := hrise.2
    have hreserve := h.reserve
    have hfree : 9 ≤ s.freeSlots := by omega
    exact (capacityLaw_iff _).mpr ⟨h.used, fun _ => hfree, hreserve⟩
  · exact h

theorem capacityLaw_reserveTest (hused : s.usedSlots ≤ 256) (hreserve : 8 ≤ s.params.journalReserve) : CapacityLaw s.reserveTest := by
  unfold State.reserveTest
  split
  · next hmargin =>
    have hfree : 9 ≤ s.freeSlots := by omega
    exact (capacityLaw_iff _).mpr ⟨hused, fun _ => hfree, hreserve⟩
  · exact capacityLaw_of_no_request hused hreserve rfl

theorem State.freeSlots_of_claim {n : NotedBlock} {l : LineIndex} (h : s.admission n l = .claim) : 1 ≤ s.freeSlots := by
  unfold State.admission at h
  split at h
  · simp at h
  · split at h
    · assumption
    · split at h
      · simp at h
      · split at h <;> simp at h

/-- R32: a claim is taken where a slot is free. -/
theorem State.usedSlots_claim {host : HostPort} (h : 1 ≤ s.freeSlots) : State.usedSlots { s with host := host } ≤ 256 := by
  have hbound := State.usedSlots_le { s with host := host }
  have hlen := s.length_le_usedSlots
  rw [State.freeSlots_eq] at h
  dsimp only at hbound
  omega

theorem CapacityLaw.retestHost (h : CapacityLaw s) : CapacityLaw s.retestHost := by
  unfold State.retestHost
  split
  · split
    · exact h.of_same (by simp) (by simp [State.toPortWait])
    · next hclaim => exact capacityLaw_sweepFall (State.usedSlots_claim (State.freeSlots_of_claim hclaim)) h.reserve
    · exact h.of_same (by simp) (by simp [State.toPortWait])
    · exact h
    · exact h
  · exact h

theorem CapacityLaw.announceRise (h : CapacityLaw s) : CapacityLaw s.announceRise := h.retestHost.sweepRise

theorem CapacityLaw.releaseClaim (h : CapacityLaw s) : CapacityLaw s.releaseClaim := by
  unfold State.releaseClaim
  split
  · exact CapacityLaw.announceRise (h.of_same (t := { s with host := { s.host with claim := false } }) (by simp) (by simp))
  · exact h

theorem CapacityLaw.releaseHold (h : CapacityLaw s) : CapacityLaw s.releaseHold := by
  unfold State.releaseHold
  split
  · exact h.of_same (by simp) (by simp [State.answer, HostPort.idle])
  · exact h
  · exact h

theorem CapacityLaw.sweepLinkDown (h : CapacityLaw s) : CapacityLaw s.sweepLinkDown := by
  unfold State.sweepLinkDown
  split
  · exact h
  · exact h
  · exact h.of_same (by simp) (by simp) (by simp [State.endCopy])

theorem CapacityLaw.sessionEnd (h : CapacityLaw s) : CapacityLaw s.sessionEnd := by
  have hcleared : CapacityLaw s.sessionCleared :=
    CapacityLaw.releaseHold (h.of_same (t := { (s.setFlags (s.journal.records.filterMap Record.block?)).failMarkers with
      journal := { s.journal with records := [] } }) (by simp))
  rw [State.sessionEnd_eq]
  exact hcleared.sweepLinkDown.retestHost.of_same (by simp)

theorem CapacityLaw.departUp (h : CapacityLaw s) (dest : LinkState) : CapacityLaw (s.departUp dest) := by
  simp only [State.departUp]
  split
  · exact CapacityLaw.sessionEnd (s := s.setLink dest) h
  · exact h

theorem CapacityLaw.loseLink (h : CapacityLaw s) : CapacityLaw s.loseLink := h.departUp .training

theorem CapacityLaw.localHalt (h : CapacityLaw s) (r : HaltReason) : CapacityLaw (s.localHalt r) := by
  unfold State.localHalt
  split
  · exact CapacityLaw.departUp (s := s.dueHalt r) h _
  · exact h
  · exact h

theorem CapacityLaw.handOff (h : CapacityLaw s) (r : Record) : CapacityLaw (s.handOff r) := by
  unfold State.handOff
  split
  · rw [State.markerReached_frame]
    exact h
  · split
    · exact h.releaseHold
    · exact h

theorem CapacityLaw.removeHead (h : CapacityLaw s) (n : Nat) : CapacityLaw (removeHead n s) := by
  induction n generalizing s with
  | zero => exact h
  | succ n ih =>
    unfold Machine.removeHead
    split
    · exact h
    · next r rest hrs => exact ih (CapacityLaw.handOff (h.of_same (by simp [hrs])) r)

theorem CapacityLaw.remove (h : CapacityLaw s) (n : Nat) : CapacityLaw (s.remove n) := by
  cases n with
  | zero => exact h
  | succ n => exact (h.removeHead (n + 1)).announceRise.of_same (t := (Machine.removeHead (n + 1) s).announceRise.waterTest)

theorem CapacityLaw.acceptNak (h : CapacityLaw s) (d : Nat) : CapacityLaw (s.acceptNak d) := by
  have hremoved := h.remove (s.journal.nakRemoves d)
  have hrewound : CapacityLaw (s.remove (s.journal.nakRemoves d)).rewind := hremoved.of_same
  unfold State.acceptNak
  dsimp only
  split
  · split
    · exact hrewound
    · exact hrewound
  · exact hrewound.of_same

theorem CapacityLaw.afterReadTimeout (h : CapacityLaw s) (stop : Bool) : CapacityLaw (s.afterReadTimeout stop) := by
  unfold State.afterReadTimeout
  dsimp only
  split
  · exact h.of_same (Nat.le_refl _) (by simp) (by simp [State.endCopy])
  · split
    · exact h.of_same (Nat.le_refl _) (by simp) (by simp [State.endCopy])
    · exact h.of_same (Nat.le_refl _) (by simp) (by simp [State.endCopy, State.enterScanning])

theorem CapacityLaw.advanceCopy (h : CapacityLaw s) (c : Copy) : CapacityLaw (s.advanceCopy c) := by
  unfold State.advanceCopy
  split
  · exact h.of_same (Nat.le_refl _) (by simp) (by simp [State.endCopy, State.enterScanning])
  · exact capacityLaw_reserveTest h.used h.reserve

theorem State.request_of_startSweep (s : State) (h : s.startSweep.derivePair.sweep.request = true) : s.sweep.request = true := by
  rw [State.derivePair_sweep, State.startSweep] at h
  dsimp only at h
  split at h <;> exact h

theorem CapacityLaw.stopSweep (h : CapacityLaw s) : CapacityLaw s.stopSweep := by
  unfold State.stopSweep
  split
  · exact h
  · exact h
  · exact h
  · exact CapacityLaw.retestHost (h.of_same (by simp) (by simp) (by simp [State.endCopy]))
  · split
    · exact CapacityLaw.retestHost (h.of_same (by simp) (by simp) (by simp [State.endCopy]))
    · exact h

theorem CapacityLaw.afterParam (h : CapacityLaw s) (p : Param) (v : BitVec 32) : CapacityLaw (s.afterParam p v) := by
  unfold State.afterParam
  split
  · exact h.of_same
  · exact h.of_same
  · split
    · exact h.of_same
    · exact h
  · exact h

/-- JOURNAL_RESERVE is written in its range only (R164). -/
theorem CapacityLaw.putParam (h : CapacityLaw s) {p : Param} {v : BitVec 32} (hrange : p.inRange v = true) :
    CapacityLaw { s with params := s.params.put p v } := by
  obtain ⟨hfull, hmargin, hmin⟩ := h
  refine ⟨hfull, hmargin, ?_⟩
  cases p with
  | journalReserve =>
    simp only [Param.inRange, decide_eq_true_eq] at hrange
    exact hrange.1
  | _ => exact hmin

end

theorem Effect.keeps_capacityLaw {s t : State} (heff : Effect s t) (h : CapacityLaw s) : CapacityLaw t := by
  cases heff with
  | unchanged | ownFields | counters => exact h
  | fenced | misaligned => exact h.of_same (by simp) (by simp [State.refuseFenced, State.refuseMisaligned, HostPort.idle])
  | passes | admitted | stalled => exact h.of_same (by simp) (by simp [State.admittedPort, HostPort.idle])
  | claimed t b hready hslot =>
    have hused : State.usedSlots { s with host := { s.admittedPort t b with claim := true } } ≤ 256 := hslot
    exact capacityLaw_sweepFall hused h.reserve
  | marked => exact h.of_same (by simp) (by simp [State.admittedPort, HostPort.idle])
  | initDrops => exact h.of_same (by simp) (by simp [State.dropHost, HostPort.idle])
  | initReleases => exact CapacityLaw.sweepRise (s := s.dropHost) (h.of_same (by simp) (by simp [State.dropHost, HostPort.idle]))
  | initAbandons => exact h.of_same (by simp ) (by simp [State.dropHost, HostPort.idle])
  | initEndsHold => exact h.of_same (by simp [State.clearWaiter]) (by simp [State.dropHost, HostPort.idle])
  | forwarded =>
    have hcounted : CapacityLaw s.countHostGrant := h.of_same
    exact hcounted.releaseClaim.of_same (by simp) (by simp [State.forward])
  | dirtied =>
    have hcounted : CapacityLaw s.countHostGrant := h.of_same
    exact hcounted.releaseClaim.of_same (by simp) (by simp [State.forward])
  | merged t bound =>
    refine (CapacityLaw.releaseClaim (h.of_same (t := { s.countHostGrant.changeTail (Record.merge t bound) with
      host := { s.host with bound := bound } }) ?_)).of_same (by simp) (by simp [State.forward])
    simp [State.changeTail, length_changeLast]
  | appended t bound b htxn hgrant hrole hup hclaim =>
    refine h.of_le ?_
    simp [State.usedSlots, State.forward, State.appendRecord, hclaim]
  | grantFenced => exact h.of_same (by simp) (by simp [State.refuseFenced, HostPort.idle])
  | hostHeld | hostDiscarded => exact h
  | hostDone => exact h.of_same (by simp) (by simp [HostPort.idle])
  | hostTimedOut => exact h.of_same (by simp ) (by simp [HostPort.idle])
  | abandonedTimedOut => exact h.of_same
  | spaceExpired => exact h.of_same (by simp) (by simp [State.toPortWait])
  | holdExpired => exact h.of_same (by simp [State.clearWaiter]) (by simp [HostPort.idle])
  | selected b =>
    have hselected : CapacityLaw (s.select b) := capacityLaw_reserveTest h.used h.reserve
    exact hselected.retestHost.of_same
  | sweepGranted c hc hgrant =>
    have hslot := h.slot_of_request (State.request_of_sweepGrantable hgrant)
    have hmargin : 9 ≤ s.freeSlots := h.2.1 (State.request_of_sweepGrantable hgrant)
    refine capacityLaw_of_no_request ?_ (by simpa using h.reserve) (by simp [State.beginSweepRead_eq])
    rw [State.freeSlots_eq] at hmargin
    have hused : (s.beginSweepRead c).usedSlots = s.usedSlots + 1 := by
      simp [State.beginSweepRead_eq, State.usedSlots, Nat.add_right_comm]
    omega
  | readStopped c data =>
    refine (CapacityLaw.retestHost (h.of_same (t := (s.readFilled data).stopCopy) ?_ ?_ ?_)).of_same
    · simp [State.readFilled, State.fillPlaceholder]
    · simp
    · simp [State.stopCopy, State.endCopy]
  | readAdvanced c data =>
    have hfilled : CapacityLaw (s.readFilled data) :=
      h.of_same (by simp [State.readFilled, State.fillPlaceholder]) (by simp) (by simp [State.readFilled])
    exact (hfilled.advanceCopy c).retestHost.of_same
  | readTimedOut =>
    have hgone : CapacityLaw s.endSweepRead.withdrawPlaceholder.remarkCopy :=
      h.of_same (by simp [State.withdrawPlaceholder, List.length_filter_le]) (by simp) (by simp [State.endSweepRead])
    exact (hgone.afterReadTimeout s.sweep.stopPending).announceRise.of_same
  | orphanEnded => exact h.of_same (by simp) (by simp) (by simp [State.endSweepRead])
  | repeated | kept | frameEnded | heard | helloTested | startTested | startRepeated | dataTaken | nakCounted => exact h.of_same
  | resent => exact h.of_same (by simp [State.rewoundForRetry, State.rewind])
  | silent => exact h.loseLink.of_same
  | exhausted =>
    have hrewound : CapacityLaw s.rewoundForRetry := h.of_same (by simp [State.rewoundForRetry, State.rewind])
    exact (hrewound.localHalt .retryExhausted).of_same
  | helloInUp | startInUp => exact (CapacityLaw.loseLink (s := s.restartSilence) h).of_same
  | ready => exact h.of_same
  | acked n => exact (CapacityLaw.remove (s := s.restartSilence) h n).of_same
  | naked d => exact (CapacityLaw.acceptNak (s := s.restartSilence.bump .naksReceived) h d).of_same
  | halted r =>
    have hleft : CapacityLaw (s.restartSilence.haltReceived r) := CapacityLaw.departUp (s := s.restartSilence) h .halted
    exact hleft.of_same
  | applyGranted | applyContinued | applied => exact h.of_same
  | applyFaults | promotionFaults => exact (CapacityLaw.localHalt (s := s.applyFaulted) h .applyFault).of_same
  | regionWritten => exact h
  | paramWritten p v hrange => exact (h.putParam hrange).afterParam p v
  | becamePrimary =>
    unfold State.becomePrimary
    exact h.of_same
  | becameReplica =>
    unfold State.becomeReplica
    exact h.of_same
  | leftPrimary =>
    refine capacityLaw_of_no_request ?_ (by simpa [State.leavePrimary] using h.reserve) (by simp [State.leavePrimary, Sweep.powerOn])
    refine Nat.le_trans (State.usedSlots_le _) ?_
    simp [State.leavePrimary, Journal.powerOn]
  | repairStarted => exact h.of_same (by simp) (by simp) s.request_of_startSweep
  | repairStopped => exact h.stopSweep.of_same
  | markerPlaced tag hrole hpair hroom hslot =>
    have hused : State.usedSlots { s.appendRecord (markerRecord tag) with
        pair := { s.pair with outstanding := s.pair.outstanding ++ [tag] } } ≤ 256 := by
      have hmore : State.usedSlots { s.appendRecord (markerRecord tag) with
          pair := { s.pair with outstanding := s.pair.outstanding ++ [tag] } } = s.usedSlots + 1 := by
        simp only [State.usedSlots, State.appendRecord, List.length_append, List.length_singleton, Nat.add_right_comm _ 1]
        rfl
      rw [State.freeSlots_eq] at hslot
      omega
    unfold State.placeMarker
    exact (capacityLaw_sweepFall hused h.reserve).of_same
  | markersRead => exact h
  | relinked => exact h.of_same
  | promoted =>
    rw [State.beginPromotion_eq, State.promotionBegun_frame]
    exact h.of_same
  | faultCleared | alertsRead | alertsAcked | alertsEnabled => exact h
  | softReset =>
    have hempty : s.softReset.journal.records.length = 0 := rfl
    exact capacityLaw_of_no_request (by have := s.softReset.usedSlots_le; omega) h.reserve rfl
  | powerOnReset => exact capacityLaw_of_no_request (Nat.zero_le 256) (by simp [State.powerOnReset, State.reset, Params.powerOn]) rfl

/-- Settles O10: every effect keeps the law, and so does every step. -/
theorem stepKeepsCapacityLaw : Obligations.StepKeepsCapacityLaw := fun _ _ =>
  step_keeps (fun _ _ _ _ _ h => h) (fun _ _ _ _ _ h => h) (fun _ _ => Effect.keeps_capacityLaw)

end Sys2Proof.Machine

/-! PROOF. The replica law (R115, R121, R123, R134): the apply queue's run of numbers, and the engine that works it off. -/

namespace Sys2Proof.Machine

open Sys2Proof

set_option Elab.async false

/-! ## Runs of numbers -/

theorem seqRun_append (n : SeqNo) (k : Nat) : seqRun n (k + 1) = seqRun n k ++ [n + BitVec.ofNat 8 k] := by
  induction k generalizing n with
  | zero => simp [seqRun]
  | succ k ih =>
    have hnext : n + 1 + BitVec.ofNat 8 k = n + BitVec.ofNat 8 (k + 1) := by
      rw [BitVec.ofNat_add]
      ac_rfl
    calc seqRun n (k + 2) = n :: seqRun (n + 1) (k + 1) := rfl
      _ = n :: (seqRun (n + 1) k ++ [n + 1 + BitVec.ofNat 8 k]) := by rw [ih]
      _ = seqRun n (k + 1) ++ [n + BitVec.ofNat 8 (k + 1)] := by rw [hnext]; rfl

theorem sub_ofNat_succ (e : SeqNo) (n : Nat) : e - BitVec.ofNat 8 (n + 1) + 1 = e - BitVec.ofNat 8 n := by
  rw [BitVec.ofNat_add]
  generalize BitVec.ofNat 8 n = m
  bv_omega

/-- The queue's numbers run up to the number before e (R121). -/
def RunsTo (e : SeqNo) (q : List QueueRecord) : Prop := q.map QueueRecord.seq = seqRun (e - BitVec.ofNat 8 q.length) q.length

theorem runsTo_nil (e : SeqNo) : RunsTo e [] := rfl

theorem RunsTo.tail {e : SeqNo} {r : QueueRecord} {rest : List QueueRecord} (h : RunsTo e (r :: rest)) : RunsTo e rest := by
  have htail : rest.map QueueRecord.seq = seqRun (e - BitVec.ofNat 8 (rest.length + 1) + 1) rest.length := (List.cons.inj h).2
  rwa [sub_ofNat_succ] at htail

theorem RunsTo.append {q : List QueueRecord} {r : QueueRecord} (h : RunsTo r.seq q) : RunsTo (r.seq + 1) (q ++ [r]) := by
  have hstart : r.seq + 1 - BitVec.ofNat 8 (q.length + 1) = r.seq - BitVec.ofNat 8 q.length := by
    rw [BitVec.ofNat_add]
    generalize BitVec.ofNat 8 q.length = m
    bv_omega
  rw [RunsTo] at *
  rw [List.length_append, List.length_singleton, hstart, seqRun_append, List.map_append, h, BitVec.sub_add_cancel, List.map_singleton]

/-! ## The law but for its last clause, which a promotion's end restores -/

/-- The replica law without what it says of a promotion. -/
def ReplicaCore (s : State) : Prop :=
  RunsTo s.receiver.expected s.receiver.queue ∧
  s.receiver.queue.length ≤ 32 ∧
  (s.apply.state = .idle → s.receiver.queue = []) ∧
  (s.apply.state = .applying ↔ s.apply.todo ≠ []) ∧
  (s.apply.state = .applying → s.receiver.queue ≠ []) ∧
  (s.role = .standalone ∨ s.role = .primary → s.apply.state = .idle)

theorem replicaLaw_iff (s : State) : ReplicaLaw s ↔ ReplicaCore s ∧ (s.role = .promoting → s.apply.state = .applying) := by
  simp only [ReplicaLaw, ReplicaCore, RunsTo, and_assoc]

section
variable {s : State}

theorem ReplicaLaw.of_same {t : State} (h : ReplicaLaw s) (hqueue : t.receiver.queue = s.receiver.queue := by simp)
    (hexpected : t.receiver.expected = s.receiver.expected := by simp) (hstate : t.apply.state = s.apply.state := by simp)
    (htodo : t.apply.todo = s.apply.todo := by simp) (hrole : t.role = s.role := by simp) : ReplicaLaw t := by
  rw [ReplicaLaw, hqueue, hexpected, hstate, htodo, hrole]
  exact h

theorem ReplicaCore.of_same {t : State} (h : ReplicaCore s) (hqueue : t.receiver.queue = s.receiver.queue := by simp)
    (hexpected : t.receiver.expected = s.receiver.expected := by simp) (hstate : t.apply.state = s.apply.state := by simp)
    (htodo : t.apply.todo = s.apply.todo := by simp) (hrole : t.role = s.role := by simp) : ReplicaCore t := by
  rw [ReplicaCore, hqueue, hexpected, hstate, htodo, hrole]
  exact h

/-- An engine with no context beside an empty queue. -/
theorem replicaCore_of_idle (happly : s.apply = ApplyEngine.idle) (hqueue : s.receiver.queue = []) : ReplicaCore s := by
  refine ⟨?_, ?_, ?_, ?_, ?_, ?_⟩ <;> simp [happly, hqueue, ApplyEngine.idle, runsTo_nil]

theorem replicaLaw_of_idle (happly : s.apply = ApplyEngine.idle) (hqueue : s.receiver.queue = []) (hrole : s.role ≠ .promoting) :
    ReplicaLaw s :=
  (replicaLaw_iff s).mpr ⟨replicaCore_of_idle happly hqueue, fun hp => absurd hp hrole⟩

/-- A part whose engine works is a replica. -/
theorem ReplicaLaw.role_of_applying (h : ReplicaLaw s) (happly : s.apply.state = .applying) : s.role = .replica ∨ s.role = .promoting := by
  obtain ⟨-, -, -, -, -, hidle, -⟩ := h
  cases hr : s.role with
  | standalone => simp [hidle (.inl hr)] at happly
  | primary => simp [hidle (.inr hr)] at happly
  | replica => exact .inl rfl
  | promoting => exact .inr rfl

theorem Role.not_served_of_replica {r : Role} (h : r = .replica ∨ r = .promoting) : ¬(r = .standalone ∨ r = .primary) := by
  rcases h with rfl | rfl <;> decide

/-- R123: what the engine takes from the queue leaves it with a record in application, or idle beside an empty queue. -/
theorem replicaCore_takeQueue {q : List QueueRecord} (hrun : RunsTo s.receiver.expected q) (hlen : q.length ≤ 32)
    (hrole : s.role = .replica ∨ s.role = .promoting) :
    ReplicaCore (takeQueue q s) ∧ (takeQueue q s).apply.state ≠ .fault := by
  induction q generalizing s with
  | nil => exact ⟨replicaCore_of_idle rfl rfl, nofun⟩
  | cons r rest ih =>
    unfold takeQueue
    split
    · refine ih ?_ (Nat.le_of_succ_le hlen) ?_
      · have hexpected (u : State) : (u.recordApplied r).receiver.expected = u.receiver.expected := by
          rw [State.recordApplied_frame]
        rw [hexpected]
        exact hrun.tail
      · rw [State.recordApplied_frame]
        exact hrole
    · exact ⟨⟨hrun, hlen, nofun, by simp, by simp, fun hr => absurd hr (Role.not_served_of_replica hrole)⟩, nofun⟩

/-- R134: a promotion whose engine does not stand in FAULT ends where the queue is empty. -/
theorem ReplicaCore.endPromotion (h : ReplicaCore s) (hfault : s.apply.state ≠ .fault) : ReplicaLaw s.endPromotion := by
  obtain ⟨hrun, hlen, hidle, htodo, happly, hrole⟩ := h
  unfold State.endPromotion
  split
  · next hend =>
    have hstate : s.apply.state = .idle := by
      cases hs : s.apply.state with
      | idle => rfl
      | applying => exact absurd hend.2 (happly hs)
      | fault => exact absurd hs hfault
    exact (replicaLaw_iff _).mpr ⟨⟨hrun, hlen, hidle, htodo, happly, fun _ => hstate⟩, nofun⟩
  · next hkeep =>
    refine (replicaLaw_iff _).mpr ⟨⟨hrun, hlen, hidle, htodo, happly, hrole⟩, fun hp => ?_⟩
    cases hs : s.apply.state with
    | idle => exact absurd ⟨hp, hidle hs⟩ hkeep
    | applying => rfl
    | fault => exact absurd hs hfault

/-- R126: the head record applied and the next one taken. -/
theorem ReplicaLaw.applyHead (h : ReplicaLaw s) (happly : s.apply.state = .applying) :
    ReplicaCore s.applyHead ∧ s.applyHead.apply.state ≠ .fault := by
  have hrole := h.role_of_applying happly
  obtain ⟨hrun, hlen, -, -, hqueue, -⟩ := h
  unfold State.applyHead
  split
  · next r rest hq =>
    rw [hq] at hrun hlen
    refine replicaCore_takeQueue ?_ (Nat.le_of_succ_le hlen) ?_
    · have hexpected (u : State) : (u.recordApplied r).receiver.expected = u.receiver.expected := by rw [State.recordApplied_frame]
      rw [hexpected]
      exact RunsTo.tail hrun
    · rw [State.recordApplied_frame]
      exact hrole
  · next hq => exact absurd hq (hqueue happly)

/-- R117 to R120: only a record accepted in order changes the queue. -/
theorem ReplicaLaw.placeData (h : ReplicaLaw s) (hrole : s.role = .replica) (r : QueueRecord) : ReplicaLaw (s.placeData r) := by
  have hgap : ReplicaLaw s.gap := by
    unfold State.gap
    split
    · exact h
    · exact h
  unfold State.placeData
  dsimp only
  split
  · next hlag =>
    split
    · next hroom =>
      have hseq : s.receiver.expected = r.seq := by bv_omega
      obtain ⟨hrun, hlen, hidle, htodo, happly, hother, hpromoting⟩ := h
      have hrun' : RunsTo (s.receiver.expected + 1) (s.receiver.queue ++ [r]) := by
        rw [hseq]
        exact RunsTo.append (hseq ▸ hrun)
      have hlen' : (s.receiver.queue ++ [r]).length ≤ 32 := by
        rw [List.length_append]
        exact hroom
      unfold State.acceptData
      dsimp only
      split
      · obtain ⟨hcore, -⟩ := replicaCore_takeQueue (q := s.receiver.queue ++ [r])
          (s := { s with receiver := { s.receiver with
            queue := s.receiver.queue ++ [r], expected := s.receiver.expected + 1, nakPending := false } }) hrun' hlen' (.inl hrole)
        refine (replicaLaw_iff _).mpr ⟨hcore, fun hp => ?_⟩
        rw [takeQueue_frame] at hp
        simp [hrole] at hp
      · next hbusy =>
        exact ⟨hrun', hlen', fun hi => absurd hi hbusy, htodo, fun _ => by simp, hother, hpromoting⟩
    · exact hgap
  · split
    · exact h
    · exact hgap

/-- R116: a session begins with an empty queue and number 0. -/
theorem ReplicaLaw.testStart (h : ReplicaLaw s) (session : SessionNo) (mode : SessionMode) : ReplicaLaw (s.testStart session mode) := by
  unfold State.testStart
  split
  · next haccept =>
    have hempty : s.receiver.queue = [] := by
      simp only [State.acceptsStart, Bool.and_eq_true, List.isEmpty_iff] at haccept
      exact haccept.1
    obtain ⟨-, hlen, hidle, htodo, happly, hother, hpromoting⟩ := h
    refine ⟨?_, hlen, hidle, htodo, happly, hother, hpromoting⟩
    show s.receiver.queue.map QueueRecord.seq = seqRun (0 - BitVec.ofNat 8 s.receiver.queue.length) s.receiver.queue.length
    rw [hempty]
    rfl
  · exact h

theorem replicaCore_discardQueue : ReplicaCore s.discardQueue := replicaCore_of_idle rfl rfl

/-- A change of role between those that hold no record. -/
theorem ReplicaLaw.of_role {t : State} (h : ReplicaLaw s) (hs : s.role = .standalone ∨ s.role = .primary) (ht : t.role ≠ .promoting)
    (hreceiver : t.receiver = s.receiver := by simp) (happly : t.apply = s.apply := by simp) : ReplicaLaw t := by
  obtain ⟨hrun, hlen, hidle, htodo, hqueue, hother, -⟩ := h
  rw [ReplicaLaw, hreceiver, happly]
  exact ⟨hrun, hlen, hidle, htodo, hqueue, fun _ => hother hs, fun hp => absurd hp ht⟩

end

theorem Effect.keeps_replicaLaw {s t : State} (heff : Effect s t) (h : ReplicaLaw s) : ReplicaLaw t := by
  cases heff with
  | unchanged | ownFields | counters | passes | misaligned | fenced | admitted | stalled => exact h
  | claimed | marked | initDrops | initReleases | initAbandons | initEndsHold | forwarded | dirtied | merged | appended
  | grantFenced | hostHeld | hostDone | hostDiscarded | hostTimedOut | abandonedTimedOut | spaceExpired | holdExpired | selected
  | sweepGranted | readStopped | readAdvanced | readTimedOut | orphanEnded | repeated | kept | silent | resent | exhausted
  | frameEnded | heard | helloTested | helloInUp | startRepeated | ready | acked | nakCounted | naked | halted => exact h.of_same
  | startTested session mode => exact (h.testStart session mode).of_same
  | startInUp session mode =>
    have hlost : ReplicaLaw s.restartSilence.loseLink := h.of_same
    exact (hlost.testStart session mode).of_same
  | dataTaken r hrole =>
    exact (ReplicaLaw.placeData (s := s.restartSilence) h hrole r).of_same
  | applyGranted => exact h.of_same
  | applyContinued t ts huse happly =>
    obtain ⟨hrun, hlen, hidle, -, hqueue, hother, hpromoting⟩ := h
    have hgoes : ReplicaLaw { s.freePort with apply := { s.apply with todo := t :: ts, request := true } } :=
      ⟨hrun, hlen, hidle, by simp [happly], hqueue, hother, hpromoting⟩
    exact hgoes.of_same
  | applied huse happly =>
    obtain ⟨hcore, hfault⟩ := ReplicaLaw.applyHead (s := s.freePort) h happly
    exact (hcore.endPromotion hfault).of_same
  | applyFaults huse happly hrole =>
    have hreplica := h.role_of_applying happly
    obtain ⟨hrun, hlen, -, -, -, -, -⟩ := h
    have hfaulted : ReplicaLaw s.applyFaulted := by
      refine ⟨hrun, hlen, nofun, ?_, nofun, fun hr => absurd hr (Role.not_served_of_replica hreplica), fun hp => absurd hp hrole⟩
      simp [State.applyFaulted]
    exact hfaulted.of_same
  | promotionFaults =>
    exact (ReplicaCore.endPromotion (s := (s.applyFaulted.localHalt .applyFault).discardQueue) replicaCore_discardQueue nofun).of_same
  | regionWritten => exact h
  | paramWritten p v =>
    unfold State.afterParam
    split
    · exact h.of_same
    · exact h.of_same
    · split
      · exact h.of_same
      · exact h
    · exact h
  | becamePrimary hrole =>
    unfold State.becomePrimary
    exact h.of_role (.inl hrole) (by simp)
  | becameReplica hrole =>
    unfold State.becomeReplica
    exact h.of_role (.inl hrole) (by simp)
  | leftPrimary hrole =>
    unfold State.leavePrimary
    exact h.of_role (.inr hrole) (by simp)
  | repairStarted | repairStopped => exact h.of_same
  | markerPlaced =>
    unfold State.placeMarker
    exact h.of_same
  | markersRead => exact h
  | relinked => exact h.of_same
  | promoted hrole =>
    rw [State.beginPromotion_eq]
    refine ReplicaLaw.of_same (ReplicaCore.endPromotion (s := s.promotionBegun) ?_ ?_)
    · unfold State.promotionBegun
      dsimp only
      split
      · exact replicaCore_discardQueue
      · obtain ⟨hrun, hlen, hidle, htodo, hqueue, -, -⟩ := h
        exact ⟨hrun, hlen, hidle, htodo, hqueue, nofun⟩
    · unfold State.promotionBegun
      dsimp only
      split
      · exact nofun
      · assumption
  | faultCleared hfault =>
    refine replicaLaw_of_idle rfl rfl fun hp => ?_
    obtain ⟨-, -, -, -, -, -, hpromoting⟩ := h
    simp [hpromoting hp] at hfault
  | alertsRead | alertsAcked | alertsEnabled => exact h
  | softReset | powerOnReset => exact replicaLaw_of_idle rfl rfl nofun

/-- Settles O17: every effect keeps the law, and so does every step. -/
theorem stepKeepsReplicaLaw : Obligations.StepKeepsReplicaLaw := fun _ _ =>
  step_keeps (fun _ _ _ _ _ h => h) (fun _ _ _ _ _ h => h) (fun _ _ => Effect.keeps_replicaLaw)

end Sys2Proof.Machine

/-! PROOF. The transmitter law (R78): a free transmitter leaves nothing due. The transmitter looks for a frame at the end of every event
that can make one due; of the others, what a DATA frame needs is not changed. -/

namespace Sys2Proof.Machine

open Sys2Proof

set_option Elab.async false

/-! ## When a DATA frame is due (R100 to R102) -/

/-- Whether the first record that is neither SENT nor RESEND is QUEUED. -/
def queuedFirst : List RecState → Bool
  | [] => false
  | .queued :: _ => true
  | .filling :: _ => false
  | _ :: xs => queuedFirst xs

theorem resendFirst_isSome (rs : List Record) : (resendFirst rs).isSome = (rs.map Record.state).contains .resend := by
  induction rs with
  | nil => rfl
  | cons r rest ih =>
    unfold resendFirst
    split
    · next h => simp [h]
    · next h => simp [ih, Ne.symm h]

theorem sendFirst_isSome (n : SeqNo) (rs : List Record) : (sendFirst n rs).isSome = queuedFirst (rs.map Record.state) := by
  induction rs with
  | nil => rfl
  | cons r rest ih => cases h : r.state <;> simp [sendFirst, queuedFirst, h, ih]

theorem outstanding_eq_countP (rs : List Record) :
    rs.countP Record.isOutstanding = (rs.map Record.state).countP fun x => x == .sent || x == .resend := by
  rw [List.countP_map]
  rfl

/-- R100 to R102: a resend while a RESEND record stands, a first send inside the window. -/
theorem State.dataFrame_isSome (s : State) :
    s.dataFrame.isSome = (s.senderActive && ((s.journal.records.map Record.state).contains .resend ||
      (Decidable.decide (s.journal.outstanding < s.params.windowSize) && queuedFirst (s.journal.records.map Record.state)))) := by
  unfold State.dataFrame
  cases hactive : s.senderActive with
  | false => simp
  | true =>
    simp only [Bool.not_true, Bool.false_eq_true, if_false, Bool.true_and]
    cases hresend : resendFirst s.journal.records with
    | some p =>
      have hcontains := resendFirst_isSome s.journal.records
      rw [hresend] at hcontains
      rw [← hcontains]
      simp
    | none =>
      have hcontains := resendFirst_isSome s.journal.records
      rw [hresend] at hcontains
      rw [← hcontains]
      by_cases hfull : s.params.windowSize ≤ s.journal.outstanding
      · have hshut : Decidable.decide (s.journal.outstanding < s.params.windowSize) = false :=
          decide_eq_false (Nat.not_lt.mpr hfull)
        rw [if_pos hfull, hshut]
        rfl
      · simp [hfull, sendFirst_isSome, Nat.lt_of_not_le hfull]

/-- Whether a DATA frame is due is decided by the sender's activity, the window and the records' states. -/
theorem State.dataFrame_isNone_congr {s t : State} (hactive : t.senderActive = s.senderActive)
    (hwindow : t.params.windowSize = s.params.windowSize)
    (hstates : t.journal.records.map Record.state = s.journal.records.map Record.state) : t.dataFrame.isNone = s.dataFrame.isNone := by
  rw [← Option.not_isSome, ← Option.not_isSome, State.dataFrame_isSome, State.dataFrame_isSome, Journal.outstanding, Journal.outstanding,
    outstanding_eq_countP, outstanding_eq_countP, hactive, hwindow, hstates]

theorem State.dataFrame_isNone_of_inactive {s : State} (h : s.senderActive = false) : s.dataFrame.isNone = true := by
  rw [← Option.not_isSome, State.dataFrame_isSome, h]
  rfl

theorem queuedFirst_append_filling (xs : List RecState) : queuedFirst (xs ++ [.filling]) = queuedFirst xs := by
  induction xs with
  | nil => rfl
  | cons x rest ih => cases x <;> simp [queuedFirst, ih]

/-- R100: a placeholder at the tail is nothing to send. -/
theorem State.dataFrame_isNone_append_filling {s t : State} {r : Record} (hr : r.state = .filling)
    (hactive : t.senderActive = s.senderActive) (hwindow : t.params.windowSize = s.params.windowSize)
    (hrecords : t.journal.records = s.journal.records ++ [r]) : t.dataFrame.isNone = s.dataFrame.isNone := by
  rw [← Option.not_isSome, ← Option.not_isSome, State.dataFrame_isSome, State.dataFrame_isSome, hactive, hwindow, Journal.outstanding,
    Journal.outstanding, hrecords]
  simp [queuedFirst_append_filling, hr, Record.isOutstanding]

/-! ## The law -/

section
variable {s : State}

theorem TransmitterLaw.of_same {t : State} (h : TransmitterLaw s) (htx : t.link.tx = s.link.tx := by simp)
    (hdue : t.link.due = s.link.due := by simp) (hup : t.link.state = s.link.state := by simp) (hrole : t.role = s.role := by simp)
    (hwindow : t.params.windowSize = s.params.windowSize := by simp)
    (hstates : t.journal.records.map Record.state = s.journal.records.map Record.state := by simp) : TransmitterLaw t := by
  have hactive : t.senderActive = s.senderActive := by rw [State.senderActive, State.senderActive, State.linkUp, State.linkUp, hup, hrole]
  rw [TransmitterLaw, htx, hdue, State.dataFrame_isNone_congr hactive hwindow hstates]
  exact h

theorem Due.eq_nothing {d : Due} (hhalt : d.halt = none) (hready : d.ready = false) (hstart : d.start = false) (hhello : d.hello = false)
    (hnak : d.nak = false) (hack : d.ack = false) (hidle : d.idle = false) : d = Due.nothing := by
  cases d
  simp_all [Due.nothing]

/-- R78: the transmitter is free at the end of an event only if it found nothing due. -/
theorem transmitterLaw_kick : TransmitterLaw s.kick := by
  unfold State.kick
  dsimp only
  split
  · next htx => exact fun h => by simp [h] at htx
  · split
    · exact nofun
    · next hhalt =>
      split
      · exact nofun
      · next hready =>
        split
        · exact nofun
        · next hstart =>
          split
          · exact nofun
          · next hhello =>
            split
            · exact nofun
            · next hnak =>
              split
              · exact nofun
              · next hack =>
                split
                · exact nofun
                · next hdata =>
                  split
                  · exact nofun
                  · next hidle =>
                    refine fun _ => ⟨Due.eq_nothing hhalt ?_ ?_ ?_ ?_ ?_ ?_, by simp [hdata]⟩
                    all_goals exact Bool.eq_false_iff.mpr ‹_›

theorem transmitterLaw_finish : TransmitterLaw s.finish := transmitterLaw_kick

theorem TransmitterLaw.forward (h : TransmitterLaw s) (t : BusTxn) : TransmitterLaw (s.forward t) := h.of_same

/-- A part with nothing in transmission or due that is no Primary. -/
theorem transmitterLaw_of_powerOn (hdue : s.link.due = Due.nothing) (hrole : s.role ≠ .primary) : TransmitterLaw s :=
  fun _ => ⟨hdue, State.dataFrame_isNone_of_inactive (by simp [State.senderActive, hrole])⟩

theorem TransmitterLaw.afterParam (h : TransmitterLaw s) (p : Param) (v : BitVec 32) : TransmitterLaw (s.afterParam p v) := by
  unfold State.afterParam
  split
  · exact h.of_same (hstates := by rw [State.waterTest_records])
  · exact h.of_same (hstates := by rw [State.waterTest_records])
  · split
    · exact h.of_same
    · exact h
  · exact h

/-- WINDOW_SIZE is written while the link is not UP, and so no sender is active (R164). -/
theorem TransmitterLaw.putParam (h : TransmitterLaw s) {p : Param} (hwritable : s.paramWritable p = true) (v : BitVec 32) :
    TransmitterLaw { s with params := s.params.put p v } := by
  by_cases hp : p = .windowSize
  · subst hp
    have hup : s.link.state ≠ .up := by simpa [State.paramWritable] using hwritable
    exact fun htx => ⟨(h htx).1, State.dataFrame_isNone_of_inactive (by simp [State.senderActive, State.linkUp, hup])⟩
  · refine h.of_same rfl rfl rfl rfl ?_ rfl
    cases p with
    | windowSize => exact absurd rfl hp
    | _ => rfl

end

theorem map_state_clearWaiter (s : State) : s.clearWaiter.journal.records.map Record.state = s.journal.records.map Record.state := by
  simp [State.clearWaiter, Function.comp_def]

theorem map_state_unbind (s : State) : s.unbind.journal.records.map Record.state = s.journal.records.map Record.state := by
  unfold State.unbind
  split
  · exact map_state_clearWaiter s
  · rfl

theorem Record.merge_state (t : BusTxn) (bound : Bool) (r : Record) : (r.merge t bound).state = r.state := by
  unfold Record.merge
  split <;> rfl

theorem Effect.keeps_transmitterLaw {s t : State} (heff : Effect s t) (h : TransmitterLaw s) : TransmitterLaw t := by
  cases heff with
  | unchanged | ownFields | counters | passes | misaligned | fenced | admitted | stalled => exact h.of_same
  | claimed | marked | initDrops | initReleases => exact h.of_same
  | initAbandons | hostTimedOut => exact h.of_same (hstates := by simp [map_state_unbind])
  | initEndsHold | holdExpired => exact h.of_same (hstates := by simp [Function.comp_def])
  | forwarded | dirtied => exact h.of_same
  | merged t bound =>
    exact h.of_same (hstates := by simp [State.changeTail, map_changeLast (Record.merge_state t bound)])
  | appended t bound => exact transmitterLaw_kick.forward t
  | grantFenced | hostHeld | hostDone | hostDiscarded | abandonedTimedOut | spaceExpired => exact h.of_same
  | selected | readStopped | readAdvanced | readTimedOut => exact transmitterLaw_finish
  | sweepGranted c =>
    have hdata : (s.beginSweepRead c).dataFrame.isNone = s.dataFrame.isNone :=
      State.dataFrame_isNone_append_filling (r := placeholder c.lineIndex) rfl (by simp [State.senderActive, State.linkUp]) (by simp)
        (by rw [State.beginSweepRead_eq, State.waterTest_records])
    rw [TransmitterLaw, hdata, State.beginSweepRead_link]
    exact h
  | orphanEnded | heard | nakCounted => exact h.of_same
  | repeated | kept | resent | frameEnded | startRepeated | dataTaken | acked | naked => exact transmitterLaw_kick
  | silent | exhausted | helloTested | helloInUp | startTested | startInUp | ready | halted | applyContinued | applied | applyFaults
  | promotionFaults | becamePrimary | becameReplica | leftPrimary | relinked | promoted => exact transmitterLaw_finish
  | applyGranted | regionWritten => exact h.of_same
  | paramWritten p v hrange hwritable => exact (h.putParam hwritable v).afterParam p v
  | repairStarted | repairStopped => exact h.of_same
  | markerPlaced => exact transmitterLaw_kick
  | markersRead | faultCleared | alertsRead | alertsAcked | alertsEnabled => exact h.of_same
  | softReset | powerOnReset => exact transmitterLaw_of_powerOn rfl nofun

/-- Settles O16: every effect keeps the law, and so does every step. -/
theorem stepKeepsTransmitterLaw : Obligations.StepKeepsTransmitterLaw := fun _ _ =>
  step_keeps (fun _ _ _ _ _ h => h.of_same) (fun _ _ _ _ _ h => h.of_same) (fun _ _ => Effect.keeps_transmitterLaw)

end Sys2Proof.Machine

/-! PROOF. The sweep's law (Tables 3.2 and 3.3, R60, R65, R69): which of the sweep's context is present in which of its states. -/

namespace Sys2Proof.Machine

open Sys2Proof

set_option Elab.async false

/-! ## The dirty count only rises by requests to set flags -/

theorem DirtyMap.count_le_foldl_set (m : DirtyMap) (bs : List Block) : m.count ≤ (bs.foldl DirtyMap.set m).count := by
  induction bs generalizing m with
  | nil => exact Nat.le_refl _
  | cons b rest ih =>
    refine Nat.le_trans ?_ (ih (m.set b))
    unfold DirtyMap.set
    split
    · exact Nat.le_refl _
    · exact Nat.le_succ _

theorem State.withdrawRequest_sweep_eq (s : State) : s.withdrawRequest.sweep = { s.sweep with request := false } := by
  unfold State.withdrawRequest
  split
  · rfl
  · next h => rw [← Bool.eq_false_iff.mpr h]

@[simp] theorem State.dueTraining_link_state (s : State) : s.dueTraining.link.state = s.link.state := by
  rw [State.dueTraining_frame]

@[simp] theorem State.placeData_link_state (r : QueueRecord) (s : State) : (s.placeData r).link.state = s.link.state := by
  rw [State.placeData_link]

@[simp] theorem State.applyHead_link_state (s : State) : s.applyHead.link.state = s.link.state := by
  rw [State.applyHead_link]

@[simp] theorem State.dueReady_link_state (s : State) : s.dueReady.link.state = s.link.state := rfl

/-- R21: a sweep read does not outlast the role Primary. -/
theorem MemPort.abandonSweep_not_owned (m : MemPort) : m.abandonSweep.ownedBy .sweep = false := by
  unfold MemPort.abandonSweep
  split
  · next u huse =>
    split
    · rfl
    · next hown => simp [MemPort.ownedBy, huse, hown]
  · next huse => simp [MemPort.ownedBy, huse]

/-- R21: a sweep read does not outlast a soft reset. -/
theorem MemPort.abandonOwn_not_owned (m : MemPort) : m.abandonOwn.ownedBy .sweep = false := by
  unfold MemPort.abandonOwn
  split
  · next u huse => cases hown : u.owner <;> simp [MemPort.ownedBy, huse, hown]
  · next huse => simp [MemPort.ownedBy, huse]

/-! ## The states of the sweep one by one -/

/-- The sweep at rest: IDLE or STOPPED. -/
def Sweep.AtRest (w : Sweep) : Prop := w.state = .idle ∨ w.state = .stopped

section
variable {s : State}

/-- A sweep with no copy. -/
theorem sweepLaw_of_no_copy (hcopy : s.sweep.copy = none) (hrequest : s.sweep.request = false) (hreading : s.sweep.reading = false)
    (hstop : s.sweep.stopPending = false) (hcopying : s.sweep.state ≠ .copying) (hwaiting : s.sweep.state ≠ .waiting)
    (hscan : s.sweep.state = .scanning → 1 ≤ s.map.count ∧ s.role = .primary ∧ s.link.state = .up)
    (htimeouts : s.sweep.timeouts < 4 ∨ s.sweep.timeouts = 4 ∧ s.sweep.state = .stopped)
    (hread : s.sweep.read.isSome = s.mem.ownedBy .sweep) : SweepLaw s := by
  refine ⟨?_, ?_, ?_, fun hc => absurd hc hcopying, ?_, fun hs => (hscan hs).1, htimeouts, hread, fun hinactive => ?_⟩
  · simp [hcopy, hcopying, hwaiting]
  · simp [hrequest]
  · simp [hreading]
  · simp [hstop]
  · cases hstate : s.sweep.state with
    | idle => exact .inl rfl
    | stopped => exact .inr rfl
    | copying => exact absurd hstate hcopying
    | waiting => exact absurd hstate hwaiting
    | scanning =>
      obtain ⟨-, hrole, hup⟩ := hscan hstate
      exact (hinactive.elim (· hrole) (· hup)).elim

/-- A sweep that waits for the reserve (R61). -/
theorem sweepLaw_of_waiting (hstate : s.sweep.state = .waiting) (hcopy : s.sweep.copy.isSome = true) (hrequest : s.sweep.request = false)
    (hreading : s.sweep.reading = false) (hstop : s.sweep.stopPending = false) (htimeouts : s.sweep.timeouts < 4)
    (hread : s.sweep.read.isSome = s.mem.ownedBy .sweep) (hrole : s.role = .primary) (hup : s.link.state = .up) : SweepLaw s := by
  refine ⟨?_, ?_, ?_, ?_, ?_, ?_, .inl htimeouts, hread, fun hinactive => ?_⟩
  · simp [hcopy, hstate]
  · simp [hrequest]
  · simp [hreading]
  · simp [hstate]
  · simp [hstop]
  · simp [hstate]
  · exact (hinactive.elim (· hrole) (· hup)).elim

/-- A sweep that copies: its request stands exactly while its read does not run. -/
theorem sweepLaw_of_copying (hstate : s.sweep.state = .copying) (hcopy : s.sweep.copy.isSome = true)
    (hrequest : s.sweep.request = !s.sweep.reading) (hstop : s.sweep.stopPending = true → s.sweep.reading = true)
    (htimeouts : s.sweep.timeouts < 4) (hread : s.sweep.read.isSome = s.mem.ownedBy .sweep) (hrole : s.role = .primary)
    (hup : s.link.state = .up) : SweepLaw s := by
  refine ⟨?_, fun _ => hstate, fun _ => hstate, fun _ => hrequest, hstop, ?_, .inl htimeouts, hread, fun hinactive => ?_⟩
  · simp [hcopy, hstate]
  · simp [hstate]
  · exact (hinactive.elim (· hrole) (· hup)).elim

/-! ## What the law says -/

theorem SweepLaw.rest (h : SweepLaw s) (hinactive : s.role ≠ .primary ∨ s.link.state ≠ .up) : s.sweep.AtRest := by
  obtain ⟨-, -, -, -, -, -, -, -, hrest⟩ := h
  exact hrest hinactive

theorem SweepLaw.active (h : SweepLaw s) (hbusy : ¬s.sweep.AtRest) : s.role = .primary ∧ s.link.state = .up := by
  refine Classical.byContradiction fun hinactive => ?_
  exact hbusy (h.rest (Classical.not_and_iff_not_or_not.mp hinactive))

theorem SweepLaw.read_iff (h : SweepLaw s) : s.sweep.read.isSome = s.mem.ownedBy .sweep := by
  obtain ⟨-, -, -, -, -, -, -, hread, -⟩ := h
  exact hread

theorem SweepLaw.timeouts (h : SweepLaw s) (hstate : s.sweep.state ≠ .stopped) : s.sweep.timeouts < 4 := by
  obtain ⟨-, -, -, -, -, -, htimeouts, -, -⟩ := h
  exact htimeouts.resolve_right fun hlast => hstate hlast.2

/-- Outside COPYING no request stands, no read of a copy runs and no stop is pending. -/
theorem SweepLaw.of_not_copying (h : SweepLaw s) (hstate : s.sweep.state ≠ .copying) :
    s.sweep.request = false ∧ s.sweep.reading = false ∧ s.sweep.stopPending = false := by
  obtain ⟨-, hrequest, hreading, -, hstop, -, -, -, -⟩ := h
  have hnot : s.sweep.reading = false := Bool.eq_false_iff.mpr fun hr => hstate (hreading hr)
  exact ⟨Bool.eq_false_iff.mpr fun hr => hstate (hrequest hr), hnot, Bool.eq_false_iff.mpr fun hs => by simp [hstop hs] at hnot⟩

theorem SweepLaw.no_copy (h : SweepLaw s) (hcopying : s.sweep.state ≠ .copying) (hwaiting : s.sweep.state ≠ .waiting) :
    s.sweep.copy = none := by
  obtain ⟨hcopy, -⟩ := h
  exact Option.not_isSome_iff_eq_none.mp fun hsome => (hcopy.mp hsome).elim hcopying hwaiting

theorem SweepLaw.copy_isSome (h : SweepLaw s) (hstate : s.sweep.state = .copying ∨ s.sweep.state = .waiting) :
    s.sweep.copy.isSome = true := by
  obtain ⟨hcopy, -⟩ := h
  exact hcopy.mpr hstate

theorem SweepLaw.of_request (h : SweepLaw s) (hrequest : s.sweep.request = true) :
    s.sweep.state = .copying ∧ s.sweep.reading = false ∧ s.sweep.stopPending = false := by
  obtain ⟨-, hcopying, -, hequal, hstop, -⟩ := h
  have hstate := hcopying hrequest
  have hnot : s.sweep.reading = false := by
    have hboth := hequal hstate
    rw [hrequest] at hboth
    simpa using hboth.symm
  exact ⟨hstate, hnot, Bool.eq_false_iff.mpr fun hs => by simp [hstop hs] at hnot⟩

theorem SweepLaw.of_reading (h : SweepLaw s) (hreading : s.sweep.reading = true) : s.sweep.state = .copying ∧ s.sweep.request = false := by
  obtain ⟨-, -, hcopying, hequal, -⟩ := h
  exact ⟨hcopying hreading, by simp [hequal (hcopying hreading), hreading]⟩

/-! ## What leaves the law -/

theorem SweepLaw.of_kept {t : State} (h : SweepLaw s) (hcount : s.sweep.state = .scanning → s.map.count ≤ t.map.count)
    (howned : t.mem.ownedBy .sweep = s.mem.ownedBy .sweep)
    (hactive : s.role = .primary ∧ s.link.state = .up → t.role = .primary ∧ t.link.state = .up) (hsweep : t.sweep = s.sweep := by simp) :
    SweepLaw t := by
  obtain ⟨hcopy, hrequest, hreading, hequal, hstop, hscan, htimeouts, hread, hrest⟩ := h
  rw [SweepLaw, hsweep, howned]
  refine ⟨hcopy, hrequest, hreading, hequal, hstop, fun hs => Nat.le_trans (hscan hs) (hcount hs), htimeouts, hread, fun hinactive => ?_⟩
  exact hrest (Classical.not_and_iff_not_or_not.mp (mt hactive (Classical.not_and_iff_not_or_not.mpr hinactive)))

theorem SweepLaw.of_same {t : State} (h : SweepLaw s) (hsweep : t.sweep = s.sweep := by simp)
    (hcount : t.map.count = s.map.count := by simp) (huse : t.mem.use = s.mem.use := by simp) (hrole : t.role = s.role := by simp)
    (hlink : t.link.state = s.link.state := by simp) : SweepLaw t :=
  h.of_kept (fun _ => Nat.le_of_eq hcount.symm) (by rw [MemPort.ownedBy, huse]) (fun hs => ⟨hrole.trans hs.1, hlink.trans hs.2⟩) hsweep

/-- A sweep at rest stays so whatever becomes of the map, the role and the link. -/
theorem SweepLaw.of_rest {t : State} (h : SweepLaw s) (hrest : s.sweep.AtRest) (huse : t.mem.use = s.mem.use := by simp)
    (hsweep : t.sweep = s.sweep := by simp) : SweepLaw t := by
  have hne : s.sweep.state ≠ .copying ∧ s.sweep.state ≠ .waiting ∧ s.sweep.state ≠ .scanning := by
    rcases hrest with hs | hs <;> simp [hs]
  obtain ⟨hcopying, hwaiting, hscanning⟩ := hne
  obtain ⟨hrequest, hreading, hstop⟩ := h.of_not_copying hcopying
  have hcopy := h.no_copy hcopying hwaiting
  have hread := h.read_iff
  obtain ⟨-, -, -, -, -, -, htimeouts, -, -⟩ := h
  refine sweepLaw_of_no_copy ?_ ?_ ?_ ?_ ?_ ?_ ?_ ?_ ?_ <;> rw [hsweep]
  · exact hcopy
  · exact hrequest
  · exact hreading
  · exact hstop
  · exact hcopying
  · exact hwaiting
  · exact fun hs => absurd hs hscanning
  · exact htimeouts
  · rw [hread, MemPort.ownedBy, MemPort.ownedBy, huse]

theorem sweepLaw_of_powerOn (hsweep : s.sweep = Sweep.powerOn) (howned : s.mem.ownedBy .sweep = false) : SweepLaw s := by
  refine sweepLaw_of_no_copy ?_ ?_ ?_ ?_ ?_ ?_ ?_ ?_ ?_ <;> simp [hsweep, Sweep.powerOn, Sweep.reading, howned]

/-- A change of whose transaction is in memory, none of the sweep's before or after. -/
theorem SweepLaw.of_use {t : State} (h : SweepLaw s) (hs : s.mem.ownedBy .sweep = false) (ht : t.mem.ownedBy .sweep = false)
    (hsweep : t.sweep = s.sweep := by simp) (hcount : t.map.count = s.map.count := by simp) (hrole : t.role = s.role := by simp)
    (hlink : t.link.state = s.link.state := by simp) : SweepLaw t :=
  h.of_kept (fun _ => Nat.le_of_eq hcount.symm) (ht.trans hs.symm) (fun hactive => ⟨hrole.trans hactive.1, hlink.trans hactive.2⟩) hsweep

/-! ## The operations -/

theorem SweepLaw.autoStart (h : SweepLaw s) : SweepLaw s.autoStart := by
  unfold State.autoStart
  split
  · next hstart =>
    obtain ⟨hrole, hup, hidle, -, hcount⟩ := hstart
    have hne : s.sweep.state ≠ .copying ∧ s.sweep.state ≠ .waiting := by simp [hidle]
    obtain ⟨hrequest, hreading, hstop⟩ := h.of_not_copying hne.1
    refine sweepLaw_of_no_copy (h.no_copy hne.1 hne.2) hrequest hreading hstop ?_ ?_ ?_ ?_ h.read_iff
    · simp [State.enterScanning, Nat.ne_of_gt hcount]
    · simp [State.enterScanning, Nat.ne_of_gt hcount]
    · exact fun _ => ⟨hcount, hrole, by simpa [State.linkUp] using hup⟩
    · exact .inl (h.timeouts (by simp [hidle]))
  · exact h

theorem SweepLaw.setFlags (h : SweepLaw s) (bs : List Block) : SweepLaw (s.setFlags bs) := by
  have hset : SweepLaw { s with map := bs.foldl DirtyMap.set s.map } :=
    h.of_kept (fun _ => DirtyMap.count_le_foldl_set _ _) rfl id
  unfold State.setFlags
  split
  · exact h
  · dsimp only
    split
    · exact hset.autoStart
    · exact hset

theorem SweepLaw.derivePair (h : SweepLaw s) : SweepLaw s.derivePair := h.of_same

theorem SweepLaw.finish (h : SweepLaw s) : SweepLaw s.finish := h.of_same

theorem SweepLaw.markDirty (h : SweepLaw s) (bs : List Block) : SweepLaw (s.markDirty bs) := by
  unfold State.markDirty
  split
  · exact h
  · exact (h.setFlags bs).derivePair

theorem SweepLaw.timedOut (h : SweepLaw s) (ds : List Block) : SweepLaw (s.timedOut ds) :=
  SweepLaw.markDirty (s := (s.bump .memoryTimeouts).report .memoryTimeout) h ds

theorem SweepLaw.sweepFall (h : SweepLaw s) : SweepLaw s.sweepFall := by
  unfold State.sweepFall
  split
  · next hfall =>
    obtain ⟨hstate, hreading, hstop⟩ := h.of_request hfall.1
    obtain ⟨hrole, hup⟩ := h.active (by simp [Sweep.AtRest, hstate])
    exact sweepLaw_of_waiting rfl (h.copy_isSome (.inl hstate)) rfl hreading hstop (h.timeouts (by simp [hstate])) h.read_iff hrole hup
  · exact h

theorem SweepLaw.sweepRise (h : SweepLaw s) : SweepLaw s.sweepRise := by
  unfold State.sweepRise
  split
  · next hrise =>
    have hstate : s.sweep.state = .waiting := hrise.1
    obtain ⟨-, hreading, hstop⟩ := h.of_not_copying (by simp [hstate])
    obtain ⟨hrole, hup⟩ := h.active (by simp [Sweep.AtRest, hstate])
    refine sweepLaw_of_copying rfl (h.copy_isSome (.inr hstate)) ?_ ?_ (h.timeouts (by simp [hstate])) h.read_iff hrole hup
    · exact (congrArg not hreading).symm
    · exact fun hs => absurd hs (Bool.eq_false_iff.mp hstop)
  · exact h

theorem SweepLaw.retestHost (h : SweepLaw s) : SweepLaw s.retestHost := by
  unfold State.retestHost
  split
  · split
    · exact h
    · exact SweepLaw.sweepFall (s := s.toPortWait true) h
    · exact h
    · exact h
    · exact h
  · exact h

theorem SweepLaw.announceRise (h : SweepLaw s) : SweepLaw s.announceRise := h.retestHost.sweepRise

theorem SweepLaw.releaseClaim (h : SweepLaw s) : SweepLaw s.releaseClaim := by
  unfold State.releaseClaim
  split
  · exact SweepLaw.announceRise (s := { s with host := { s.host with claim := false } }) h
  · exact h

theorem SweepLaw.remarkCopy (h : SweepLaw s) : SweepLaw s.remarkCopy := by
  unfold State.remarkCopy
  split
  · exact h.setFlags _
  · exact h

/-- A copy that ends leaves no context behind (R65, R67 to R69). -/
theorem sweepLaw_endCopy {dest : SweepState} (hdest : dest = .idle ∨ dest = .stopped) (hreading : s.sweep.reading = false)
    (htimeouts : s.sweep.timeouts < 4 ∨ s.sweep.timeouts = 4 ∧ dest = .stopped) (hread : s.sweep.read.isSome = s.mem.ownedBy .sweep) :
    SweepLaw (s.endCopy dest) := by
  refine sweepLaw_of_no_copy rfl rfl hreading rfl ?_ ?_ ?_ htimeouts hread
  · rcases hdest with rfl | rfl <;> simp [State.endCopy]
  · rcases hdest with rfl | rfl <;> simp [State.endCopy]
  · rcases hdest with rfl | rfl <;> simp [State.endCopy]

/-- A copy that ends and looks for the next dirty block (R60). -/
theorem sweepLaw_endCopy_enterScanning (hreading : s.sweep.reading = false) (htimeouts : s.sweep.timeouts < 4)
    (hread : s.sweep.read.isSome = s.mem.ownedBy .sweep) (hrole : s.role = .primary) (hup : s.link.state = .up) :
    SweepLaw (s.endCopy .scanning).enterScanning := by
  refine sweepLaw_of_no_copy rfl rfl hreading rfl ?_ ?_ ?_ (.inl htimeouts) hread
  · simp only [State.enterScanning]
    split <;> simp
  · simp only [State.enterScanning]
    split <;> simp
  · simp only [State.enterScanning]
    split
    · simp
    · next hcount => exact fun _ => ⟨Nat.one_le_iff_ne_zero.mpr hcount, hrole, hup⟩

/-- The reserve test of a copy whose read does not run (R60, R61). -/
theorem sweepLaw_reserveTest (hcopy : s.sweep.copy.isSome = true) (hreading : s.sweep.reading = false)
    (hstop : s.sweep.stopPending = false) (htimeouts : s.sweep.timeouts < 4) (hread : s.sweep.read.isSome = s.mem.ownedBy .sweep)
    (hrole : s.role = .primary) (hup : s.link.state = .up) : SweepLaw s.reserveTest := by
  unfold State.reserveTest
  split
  · exact sweepLaw_of_copying rfl hcopy (congrArg not hreading).symm (fun hs => absurd hs (Bool.eq_false_iff.mp hstop)) htimeouts hread
      hrole hup
  · exact sweepLaw_of_waiting rfl hcopy rfl hreading hstop htimeouts hread hrole hup

theorem SweepLaw.select (h : SweepLaw s) (hscan : s.sweep.state = .scanning) (b : Block) : SweepLaw (s.select b) := by
  obtain ⟨-, hreading, hstop⟩ := h.of_not_copying (by simp [hscan])
  obtain ⟨hrole, hup⟩ := h.active (by simp [Sweep.AtRest, hscan])
  exact sweepLaw_reserveTest rfl hreading hstop (h.timeouts (by simp [hscan])) h.read_iff hrole hup

/-- R69: whatever the sweep did, it rests after the link has left UP. -/
theorem SweepLaw.linkDown {t : State} (h : SweepLaw s) (hsweep : t.sweep = s.sweep) (huse : t.mem.use = s.mem.use) :
    SweepLaw t.sweepLinkDown := by
  unfold State.sweepLinkDown
  rw [hsweep]
  split
  · next hstate => exact h.of_rest (.inl hstate) huse hsweep
  · next hstate => exact h.of_rest (.inr hstate) huse hsweep
  · next hidle hstopped =>
    refine sweepLaw_of_no_copy ?_ ?_ ?_ ?_ ?_ ?_ ?_ ?_ ?_
    · rfl
    · rfl
    · simp [State.endCopy, Sweep.reading, Option.any_map]
    · rfl
    · simp [State.endCopy]
    · simp [State.endCopy]
    · simp [State.endCopy]
    · refine .inl ?_
      simpa [State.endCopy, hsweep, State.withdrawRequest_sweep_eq] using h.timeouts hstopped
    · simpa [State.endCopy, hsweep, huse, MemPort.ownedBy, State.withdrawRequest_sweep_eq] using h.read_iff

/-- With the link out of UP a session end's flags start no sweep. -/
theorem State.setFlags_sweep_of_not_up (bs : List Block) (hl : s.link.state ≠ .up) : (s.setFlags bs).sweep = s.sweep := by
  unfold State.setFlags
  split
  · rfl
  · dsimp only
    split
    · rw [State.autoStart, if_neg]
      simp [State.linkUp, hl]
    · rfl

theorem State.sessionCleared_sweep (hl : s.link.state ≠ .up) : s.sessionCleared.sweep = s.sweep := by
  simp [State.sessionCleared, State.hostSessionEnd, State.setFlags_sweep_of_not_up _ hl]

theorem SweepLaw.departUp (h : SweepLaw s) {dest : LinkState} (hdest : dest ≠ .up) : SweepLaw (s.departUp dest) := by
  simp only [State.departUp]
  split
  · have hcleared : (s.setLink dest).sessionCleared.sweep = s.sweep := State.sessionCleared_sweep (s := s.setLink dest) hdest
    rw [State.sessionEnd_eq]
    exact (h.linkDown hcleared (by rw [State.sessionCleared_mem]; rfl)).retestHost.of_same
  · next hrole => exact h.of_rest (h.rest (.inl hrole))

theorem SweepLaw.loseLink (h : SweepLaw s) : SweepLaw s.loseLink := (h.departUp (by decide)).of_same (t := s.loseLink) rfl rfl rfl rfl rfl

theorem SweepLaw.localHalt (h : SweepLaw s) (r : HaltReason) : SweepLaw (s.localHalt r) := by
  unfold State.localHalt
  split
  · exact SweepLaw.of_same (SweepLaw.departUp (s := s.dueHalt r) h (dest := .halted) (by decide))
  · next hstate => exact h.of_rest (h.rest (.inr (by simp [hstate])))
  · exact h

theorem SweepLaw.handOff (h : SweepLaw s) (r : Record) : SweepLaw (s.handOff r) := by
  rw [State.handOff_frame]
  exact h

theorem SweepLaw.removeHead (h : SweepLaw s) (n : Nat) : SweepLaw (removeHead n s) := by
  rw [removeHead_frame]
  exact h

theorem SweepLaw.remove (h : SweepLaw s) (n : Nat) : SweepLaw (s.remove n) := by
  cases n with
  | zero => exact h
  | succ n => exact (h.removeHead (n + 1)).announceRise.of_same (t := (Machine.removeHead (n + 1) s).announceRise.waterTest)

theorem SweepLaw.acceptNak (h : SweepLaw s) (d : Nat) : SweepLaw (s.acceptNak d) := by
  have hremoved : SweepLaw (s.remove (s.journal.nakRemoves d)).rewind := h.remove (s.journal.nakRemoves d)
  unfold State.acceptNak
  dsimp only
  split
  · split
    · exact hremoved
    · exact hremoved
  · exact hremoved.of_same

/-- A read of the copy that has left memory: the copy goes on, or the sweep does (R63, R65). -/
theorem State.of_sweepRead {current : Bool} (h : s.sweepReadInMemory current = true) :
    s.sweep.reading = current ∧ s.mem.ownedBy .sweep = true := by
  simp only [State.sweepReadInMemory, Bool.and_eq_true] at h
  obtain ⟨howned, hread⟩ := h
  refine ⟨?_, howned⟩
  cases hr : s.sweep.read with
  | none => simp [hr] at hread
  | some r => simpa [Sweep.reading, hr] using hread

/-- A grant to the host port finds the memory port free, and leaves it with no read of the sweep's. -/
theorem SweepLaw.forward {u : State} (h : SweepLaw u) (hgrant : s.hostGrantable = true) (huse : u.mem.use = s.mem.use) (t : BusTxn) :
    SweepLaw (u.forward t) := by
  obtain ⟨-, -, hfree⟩ := State.of_hostGrantable hgrant
  exact h.of_use (by simp [MemPort.ownedBy, huse, hfree]) (by simp [MemPort.ownedBy, State.forward])

theorem sweepLaw_stopCopy_readFilled (data : LineBytes) : SweepLaw (s.readFilled data).stopCopy := by
  refine sweepLaw_endCopy (s := (s.readFilled data).remarkCopy) (.inr rfl) ?_ (.inl ?_) ?_
  · simp [Sweep.reading, State.readFilled]
  · simp [State.readFilled]
  · simp [MemPort.ownedBy, State.readFilled]

theorem SweepLaw.advanceCopy_readFilled (h : SweepLaw s) (c : Copy)
    (hread : s.sweepReadInMemory true = true) (hgo : s.sweep.stopPending = false) (data : LineBytes) :
    SweepLaw ((s.readFilled data).advanceCopy c) := by
  obtain ⟨hreading, -⟩ := State.of_sweepRead hread
  obtain ⟨hstate, -⟩ := h.of_reading hreading
  obtain ⟨hrole, hup⟩ := h.active (by simp [Sweep.AtRest, hstate])
  unfold State.advanceCopy
  split
  · exact sweepLaw_endCopy_enterScanning (s := State.bump .sweepBlocksCopied (s.readFilled data)) (by simp [Sweep.reading, State.readFilled])
      (by simp [State.readFilled]) (by simp [MemPort.ownedBy, State.readFilled]) hrole hup
  · exact sweepLaw_reserveTest rfl (by simp [Sweep.reading, State.readFilled]) hgo (by simp [State.readFilled])
      (by simp [MemPort.ownedBy, State.readFilled]) hrole hup

/-- R65: the fourth timeout in a row stops the sweep. -/
theorem SweepLaw.afterReadTimeout (h : SweepLaw s) (hread : s.sweepReadInMemory true = true) :
    SweepLaw (s.endSweepRead.withdrawPlaceholder.remarkCopy.afterReadTimeout s.sweep.stopPending) := by
  obtain ⟨hreading, -⟩ := State.of_sweepRead hread
  obtain ⟨hstate, -⟩ := h.of_reading hreading
  obtain ⟨hrole, hup⟩ := h.active (by simp [Sweep.AtRest, hstate])
  have htimeouts := h.timeouts (by simp [hstate])
  have hnone : s.endSweepRead.withdrawPlaceholder.remarkCopy.sweep.read = none := by simp [State.endSweepRead]
  have hcount : s.endSweepRead.withdrawPlaceholder.remarkCopy.sweep.timeouts = s.sweep.timeouts := by simp [State.endSweepRead]
  have hfree : s.endSweepRead.withdrawPlaceholder.remarkCopy.mem.ownedBy .sweep = false := by simp [MemPort.ownedBy, State.endSweepRead]
  have hreads : s.endSweepRead.withdrawPlaceholder.remarkCopy.sweep.reading = false := by rw [Sweep.reading, hnone]; rfl
  have hends : s.endSweepRead.withdrawPlaceholder.remarkCopy.sweep.read.isSome = s.endSweepRead.withdrawPlaceholder.remarkCopy.mem.ownedBy .sweep := by
    rw [hnone, hfree]
    rfl
  have hrole' : s.endSweepRead.withdrawPlaceholder.remarkCopy.role = .primary := by simpa using hrole
  have hup' : s.endSweepRead.withdrawPlaceholder.remarkCopy.link.state = .up := by simpa using hup
  generalize s.endSweepRead.withdrawPlaceholder.remarkCopy = u at *
  unfold State.afterReadTimeout
  dsimp only
  split
  · next hlast =>
    have hended : SweepLaw (State.endCopy .stopped { u with sweep := { u.sweep with timeouts := u.sweep.timeouts + 1 } }) :=
      sweepLaw_endCopy (.inr rfl) hreads (.inr ⟨by dsimp only; rw [hcount] at *; exact Nat.le_antisymm htimeouts hlast, rfl⟩) hends
    exact hended.of_same
  · next hmore =>
    have hless : u.sweep.timeouts + 1 < 4 := Nat.lt_of_not_le hmore
    split
    · exact sweepLaw_endCopy (.inr rfl) hreads (.inl hless) hends
    · exact sweepLaw_endCopy_enterScanning hreads hless hends hrole' hup'

/-- R70: the end of an orphaned read changes the sweep's record of it alone. -/
theorem SweepLaw.orphanEnded (h : SweepLaw s) (hreading : s.sweep.reading = false) : SweepLaw s.endSweepRead := by
  obtain ⟨hcopy, hrequest, -, hequal, hstop, hscan, htimeouts, -, hrest⟩ := h
  rw [hreading] at hequal hstop
  refine ⟨hcopy, hrequest, ?_, ?_, ?_, hscan, htimeouts, ?_, hrest⟩
  · simp [State.endSweepRead, Sweep.reading]
  · simpa [State.endSweepRead, Sweep.reading] using hequal
  · simpa [State.endSweepRead, Sweep.reading] using hstop
  · simp [State.endSweepRead, MemPort.ownedBy]

/-- R58: the sweep at link UP. -/
theorem SweepLaw.sweepLinkUp (h : SweepLaw s) (hrole : s.role = .primary) (htrain : s.link.state = .training) :
    SweepLaw s.enterUp.resetSender.sweepLinkUp := by
  have hrest := h.rest (.inr (by simp [htrain]))
  have hup : SweepLaw s.enterUp.resetSender := h.of_rest hrest
  unfold State.sweepLinkUp
  split
  · next hidle =>
    obtain ⟨hrequest, hreading, hstop⟩ := hup.of_not_copying (by rw [hidle]; nofun)
    have hcopy := hup.no_copy (by rw [hidle]; nofun) (by rw [hidle]; nofun)
    have htimeouts := hup.timeouts (by rw [hidle]; nofun)
    split
    · refine sweepLaw_of_no_copy hcopy hrequest hreading hstop ?_ ?_ ?_ (.inl htimeouts) hup.read_iff
      · simp only [State.enterScanning]
        split <;> simp
      · simp only [State.enterScanning]
        split <;> simp
      · simp only [State.enterScanning]
        split
        · simp
        · next hcount => exact fun _ => ⟨Nat.one_le_iff_ne_zero.mpr hcount, hrole, rfl⟩
    · exact sweepLaw_of_no_copy hcopy hrequest hreading hstop nofun nofun nofun (.inl htimeouts) hup.read_iff
  · exact hup

theorem State.ownedBy_sweep_of_apply (happly : s.applyInMemory = true) : s.mem.ownedBy .sweep = false := by
  cases huse : s.mem.use with
  | none => simp [MemPort.ownedBy, huse]
  | some u =>
    have hown : u.owner = .apply := by simpa [State.applyInMemory, huse] using happly
    simp [MemPort.ownedBy, huse, hown]

theorem SweepLaw.endPromotion (h : SweepLaw s) : SweepLaw s.endPromotion := by
  unfold State.endPromotion
  split
  · next hend => exact h.of_rest (h.rest (.inl (by simp [hend.1])))
  · exact h

theorem SweepLaw.afterParam (h : SweepLaw s) (p : Param) (v : BitVec 32) : SweepLaw (s.afterParam p v) := by
  unfold State.afterParam
  split
  · exact h.of_same
  · exact h.of_same
  · split
    · exact h.autoStart.derivePair
    · exact h
  · exact h

/-- An idle or stopped sweep looks for a dirty block (R66). -/
theorem SweepLaw.enterScanning (h : SweepLaw s) (hrest : s.sweep.AtRest) (htimeouts : s.sweep.timeouts < 4) (hrole : s.role = .primary)
    (hup : s.link.state = .up) : SweepLaw s.enterScanning := by
  have hne : s.sweep.state ≠ .copying ∧ s.sweep.state ≠ .waiting := by rcases hrest with hs | hs <;> simp [hs]
  obtain ⟨hrequest, hreading, hstop⟩ := h.of_not_copying hne.1
  refine sweepLaw_of_no_copy (h.no_copy hne.1 hne.2) hrequest hreading hstop ?_ ?_ ?_ (.inl htimeouts) h.read_iff
  · simp only [State.enterScanning]
    split <;> simp
  · simp only [State.enterScanning]
    split <;> simp
  · simp only [State.enterScanning]
    split
    · simp
    · next hcount => exact fun _ => ⟨Nat.one_le_iff_ne_zero.mpr hcount, hrole, hup⟩

theorem SweepLaw.forgetTimeouts (h : SweepLaw s) : SweepLaw { s with sweep := { s.sweep with timeouts := 0 } } := by
  obtain ⟨hcopy, hrequest, hreading, hequal, hstop, hscan, -, hread, hrest⟩ := h
  exact ⟨hcopy, hrequest, hreading, hequal, hstop, hscan, .inl (Nat.succ_pos 3), hread, hrest⟩

/-- R66: START REPAIR by the sweep's state. -/
theorem SweepLaw.startSweep (h : SweepLaw s) (hrole : s.role = .primary) (hup : s.link.state = .up) : SweepLaw s.startSweep := by
  have hcleared := h.forgetTimeouts
  unfold State.startSweep
  dsimp only
  split
  · next hidle => exact hcleared.enterScanning (.inl hidle) (Nat.succ_pos 3) hrole hup
  · next hstopped => exact hcleared.enterScanning (.inr hstopped) (Nat.succ_pos 3) hrole hup
  · obtain ⟨hcopy, hrequest, hreading, hequal, -, hscan, htimeouts, hread, hrest⟩ := hcleared
    exact ⟨hcopy, hrequest, hreading, hequal, nofun, hscan, htimeouts, hread, hrest⟩
  · exact hcleared

/-- R67: STOP REPAIR by the sweep's state. -/
theorem SweepLaw.stopSweep (h : SweepLaw s) : SweepLaw s.stopSweep := by
  have hstopped (hcopying : s.sweep.state ≠ .copying) (hwaiting : s.sweep.state ≠ .waiting) (htimeouts : s.sweep.timeouts < 4) :
      SweepLaw { s with sweep := { s.sweep with state := .stopped } } := by
    obtain ⟨hrequest, hreading, hstop⟩ := h.of_not_copying hcopying
    exact sweepLaw_of_no_copy (h.no_copy hcopying hwaiting) hrequest hreading hstop nofun nofun nofun (.inl htimeouts) h.read_iff
  unfold State.stopSweep
  split
  · next hstate => exact hstopped (by simp [hstate]) (by simp [hstate]) (h.timeouts (by simp [hstate]))
  · next hstate => exact hstopped (by simp [hstate]) (by simp [hstate]) (h.timeouts (by simp [hstate]))
  · exact h
  · next hstate =>
    obtain ⟨-, hreading, -⟩ := h.of_not_copying (by simp [hstate])
    refine SweepLaw.retestHost (sweepLaw_endCopy (.inr rfl) ?_ (.inl ?_) ?_)
    · simpa [Sweep.reading] using hreading
    · simpa using h.timeouts (by simp [hstate])
    · simpa [MemPort.ownedBy] using h.read_iff
  · next hstate =>
    split
    · next hrequest =>
      obtain ⟨-, hreading, -⟩ := h.of_request hrequest
      refine SweepLaw.retestHost (sweepLaw_endCopy (.inr rfl) ?_ (.inl ?_) ?_)
      · simpa [Sweep.reading, State.withdrawRequest_sweep_eq] using hreading
      · simpa [State.withdrawRequest_sweep_eq] using h.timeouts (by simp [hstate])
      · simpa [MemPort.ownedBy, State.withdrawRequest_sweep_eq] using h.read_iff
    · next hrequest =>
      obtain ⟨hcopy, hreq, hread', hequal, -, hscan, htimeouts, hread, hrest⟩ := h
      refine ⟨hcopy, hreq, hread', hequal, fun _ => ?_, hscan, htimeouts, hread, hrest⟩
      have hboth := hequal hstate
      rw [Bool.eq_false_iff.mpr hrequest] at hboth
      simpa using hboth.symm

end

theorem Effect.keeps_sweepLaw {s t : State} (heff : Effect s t) (h : SweepLaw s) : SweepLaw t := by
  cases heff with
  | unchanged | ownFields | counters | passes | misaligned | fenced | admitted | stalled => exact h
  | claimed t b => exact SweepLaw.sweepFall (s := { s with host := { s.admittedPort t b with claim := true } }) h
  | marked t b => exact SweepLaw.markDirty (s := State.bump .overflowMarks { s with host := s.admittedPort t b }) h [b]
  | initDrops | initEndsHold => exact h
  | initReleases => exact SweepLaw.sweepRise (s := s.dropHost) h
  | initAbandons =>
    refine h.of_kept (by simp) ?_ (by simp)
    cases huse : s.mem.use with
    | none => simp [MemPort.ownedBy, MemPort.abandonHost, huse]
    | some u =>
      have hkept : (PortOwner.abandonedHost == PortOwner.sweep) = (PortOwner.host == PortOwner.sweep) := rfl
      by_cases hown : u.owner = .host
      · simp [MemPort.ownedBy, MemPort.abandonHost, huse, hown, hkept]
      · simp [MemPort.ownedBy, MemPort.abandonHost, huse, hown]
  | forwarded t htxn hgrant =>
    have hreleased : SweepLaw s.countHostGrant.releaseClaim := SweepLaw.releaseClaim (h.of_same (t := s.countHostGrant))
    exact hreleased.forward hgrant (by simp) t
  | dirtied t ds htxn hgrant =>
    have hreleased : SweepLaw s.countHostGrant.releaseClaim := SweepLaw.releaseClaim (h.of_same (t := s.countHostGrant))
    exact (hreleased.markDirty ds).forward hgrant (by simp) t
  | merged t bound htxn hgrant =>
    have hreleased : SweepLaw (State.releaseClaim
        { s.countHostGrant.changeTail (Record.merge t bound) with host := { s.host with bound := bound } }) :=
      SweepLaw.releaseClaim (h.of_same (t := { s.countHostGrant.changeTail (Record.merge t bound) with
        host := { s.host with bound := bound } }))
    exact hreleased.forward hgrant (by simp) t
  | appended t bound b htxn hgrant =>
    have hkicked : SweepLaw (State.waterTest { s.countHostGrant.appendRecord (lineRecord (s.txnLine t) t bound) with
        host := { s.host with claim := false, bound := bound } }).kick := h.of_same
    exact hkicked.forward hgrant (by simp) t
  | grantFenced => exact h.of_same
  | hostHeld u huse hown | hostDone u a huse hown | hostDiscarded u huse hown =>
    exact h.of_use (by simp [MemPort.ownedBy, huse, hown]) (by simp [MemPort.ownedBy])
  | hostTimedOut u ds huse hown =>
    exact SweepLaw.timedOut (h.of_use (t := s.unbind.freePort.answer .fault) (by simp [MemPort.ownedBy, huse, hown]) (by simp [MemPort.ownedBy])) ds
  | abandonedTimedOut u ds huse hown => exact SweepLaw.timedOut (h.of_use (t := s.freePort) (by simp [MemPort.ownedBy, huse, hown]) (by simp [MemPort.ownedBy])) ds
  | spaceExpired n => exact SweepLaw.markDirty (s := State.bump .stallTimeouts (s.toPortWait false)) h [n.block]
  | holdExpired => exact h
  | selected b hscan => exact (h.select hscan b).retestHost.finish
  | sweepGranted c hc hgrant =>
    obtain ⟨hstate, -, hstop⟩ := h.of_request (State.request_of_sweepGrantable hgrant)
    obtain ⟨hrole, hup⟩ := h.active (by simp [Sweep.AtRest, hstate])
    have hbegun : SweepLaw { s with
        mem := { s.mem with use := some ⟨.sweep, ⟨lineAddr s.params.windowBase c.lineIndex, .readLine⟩, s.params.memLimit⟩, sweepWait := 0 },
        sweep := { s.sweep with request := false, read := some ⟨c.lineIndex, true⟩ },
        journal := { s.journal with records := s.journal.records ++ [placeholder c.lineIndex] } } :=
      sweepLaw_of_copying hstate (h.copy_isSome (.inl hstate)) (by simp [Sweep.reading]) (fun _ => by simp [Sweep.reading])
        (h.timeouts (by simp [hstate])) (by simp [MemPort.ownedBy]) hrole hup
    rw [State.beginSweepRead_eq]
    exact hbegun.of_same
  | readStopped c data hc hread =>
    exact (sweepLaw_stopCopy_readFilled data).retestHost.finish
  | readAdvanced c data hc hread hgo =>
    exact (h.advanceCopy_readFilled c hread hgo data).retestHost.finish
  | readTimedOut hread => exact (h.afterReadTimeout hread).announceRise.of_same
  | orphanEnded hread =>
    obtain ⟨hreading, howned⟩ := State.of_sweepRead hread
    exact h.orphanEnded hreading
  | repeated | kept | resent | frameEnded | heard | startRepeated | dataTaken | nakCounted => exact h.of_same
  | silent => exact h.loseLink.finish
  | exhausted => exact (SweepLaw.localHalt (s := s.rewoundForRetry) h .retryExhausted).finish
  | helloTested hello htrain => exact (h.of_rest (h.rest (.inr (by simp [htrain])))).finish
  | helloInUp hello =>
    have hlost := SweepLaw.loseLink (s := s.restartSilence) h
    have htrain : s.restartSilence.loseLink.link.state = .training := by rw [State.loseLink_link]; rfl
    exact (hlost.of_rest (hlost.rest (.inr (by simp [htrain])))).finish
  | startTested session mode hrole => exact (h.of_rest (h.rest (.inl (by simp [hrole])))).finish
  | startInUp session mode hrole =>
    have hlost := SweepLaw.loseLink (s := s.restartSilence) h
    exact (hlost.of_rest (hlost.rest (.inl (by simp [hrole])))).finish
  | ready hrole htrain => exact (h.sweepLinkUp hrole htrain).finish
  | acked n => exact (SweepLaw.remove (s := s.restartSilence) h n).of_same
  | naked d => exact (SweepLaw.acceptNak (s := s.restartSilence.bump .naksReceived) h d).of_same
  | halted r =>
    have hleft : SweepLaw (s.restartSilence.haltReceived r) :=
      (SweepLaw.departUp (s := s.restartSilence) h (dest := .halted) (by decide)).of_same rfl rfl rfl rfl rfl
    exact hleft.finish
  | applyGranted t n hgrant =>
    have hfree : s.mem.use = none := by
      simp only [State.applyGrantable, Bool.and_eq_true, Option.isNone_iff_eq_none] at hgrant
      exact hgrant.1.2
    exact h.of_use (by simp [MemPort.ownedBy, hfree]) (by simp [MemPort.ownedBy])
  | applyContinued t ts huse => exact h.of_use (State.ownedBy_sweep_of_apply huse) (by simp [MemPort.ownedBy])
  | applied huse =>
    have hfreed : SweepLaw s.freePort.applyHead := h.of_use (State.ownedBy_sweep_of_apply huse) (by simp [MemPort.ownedBy])
    exact hfreed.endPromotion.finish
  | applyFaults huse =>
    have hfaulted : SweepLaw s.applyFaulted := h.of_use (State.ownedBy_sweep_of_apply huse) rfl rfl rfl rfl rfl
    exact (hfaulted.localHalt .applyFault).finish
  | promotionFaults huse =>
    have hfaulted : SweepLaw s.applyFaulted := h.of_use (State.ownedBy_sweep_of_apply huse) rfl rfl rfl rfl rfl
    have hdrained : SweepLaw (s.applyFaulted.localHalt .applyFault).discardQueue := hfaulted.localHalt .applyFault
    exact hdrained.endPromotion.finish
  | regionWritten => exact h
  | paramWritten p v => exact SweepLaw.afterParam (s := { s with params := s.params.put p v }) h p v
  | becamePrimary hrole =>
    unfold State.becomePrimary
    exact h.of_rest (h.rest (.inl (by simp [hrole])))
  | becameReplica hrole =>
    unfold State.becomeReplica
    exact h.of_rest (h.rest (.inl (by simp [hrole])))
  | leftPrimary =>
    refine sweepLaw_of_powerOn (by simp [State.leavePrimary]) ?_
    simpa [State.leavePrimary, MemPort.ownedBy] using s.linkLeavePrimary.mem.abandonSweep_not_owned
  | repairStarted hrole hup => exact (h.startSweep hrole hup).derivePair
  | repairStopped => exact h.stopSweep.derivePair
  | markerPlaced tag =>
    unfold State.placeMarker
    exact (SweepLaw.sweepFall (s := { s.appendRecord (markerRecord tag) with
      pair := { s.pair with outstanding := s.pair.outstanding ++ [tag] } }) h).of_same
  | markersRead => exact h
  | relinked hhalt => exact (h.of_rest (h.rest (.inr (by simp [hhalt])))).finish
  | promoted hrole =>
    rw [State.beginPromotion_eq, State.promotionBegun_frame]
    exact h.of_rest (h.rest (.inl (by simp [hrole])))
  | faultCleared | alertsRead | alertsAcked | alertsEnabled => exact h
  | softReset => exact sweepLaw_of_powerOn rfl s.mem.abandonOwn_not_owned
  | powerOnReset => exact sweepLaw_of_powerOn rfl rfl

/-- Settles O7: every effect keeps the law, and so does every step. -/
theorem stepKeepsSweepLaw : Obligations.StepKeepsSweepLaw := fun _ _ =>
  step_keeps (fun _ _ _ _ _ h => h) (fun _ _ _ _ _ h => h) (fun _ _ => Effect.keeps_sweepLaw)

end Sys2Proof.Machine

/-! PROOF. The pair law (R142): the pair state is derived at the end of every event that changes what it depends on, and the sweep's waits
for the reserve change nothing that it depends on. -/

namespace Sys2Proof.Machine

open Sys2Proof

set_option Elab.async false

/-- Table 3.3: a request of the sweep stands only in COPYING. -/
def RequestLaw (s : State) : Prop := s.sweep.request = true → s.sweep.state = .copying

section
variable {s : State}

/-! ## Requests -/

theorem RequestLaw.of_same {t : State} (h : RequestLaw s) (hsweep : t.sweep = s.sweep := by simp) : RequestLaw t := by
  rw [RequestLaw, hsweep]
  exact h

theorem requestLaw_of_none (h : s.sweep.request = false) : RequestLaw s := fun hr => by simp [h] at hr

theorem RequestLaw.no_request (h : RequestLaw s) (hstate : s.sweep.state ≠ .copying) : s.sweep.request = false :=
  Bool.eq_false_iff.mpr fun hr => hstate (h hr)

theorem RequestLaw.autoStart (h : RequestLaw s) : RequestLaw s.autoStart := by
  unfold State.autoStart
  split
  · next hstart => exact requestLaw_of_none (h.no_request (by simp [hstart.2.2.1]))
  · exact h

theorem RequestLaw.setFlags (h : RequestLaw s) (bs : List Block) : RequestLaw (s.setFlags bs) := by
  unfold State.setFlags
  split
  · exact h
  · dsimp only
    split
    · exact RequestLaw.autoStart (s := { s with map := bs.foldl DirtyMap.set s.map }) h
    · exact h

theorem RequestLaw.remarkCopy (h : RequestLaw s) : RequestLaw s.remarkCopy := by
  unfold State.remarkCopy
  split
  · exact h.setFlags _
  · exact h

theorem RequestLaw.sweepFall (h : RequestLaw s) : RequestLaw s.sweepFall := by
  unfold State.sweepFall
  split
  · exact requestLaw_of_none rfl
  · exact h

theorem RequestLaw.sweepRise (h : RequestLaw s) : RequestLaw s.sweepRise := by
  unfold State.sweepRise
  split
  · exact fun _ => rfl
  · exact h

theorem RequestLaw.retestHost (h : RequestLaw s) : RequestLaw s.retestHost := by
  unfold State.retestHost
  split
  · split
    · exact h
    · exact RequestLaw.sweepFall (s := s.toPortWait true) h
    · exact h
    · exact h
    · exact h
  · exact h

theorem RequestLaw.announceRise (h : RequestLaw s) : RequestLaw s.announceRise := h.retestHost.sweepRise

theorem requestLaw_reserveTest : RequestLaw s.reserveTest := by
  unfold State.reserveTest
  split
  · exact fun _ => rfl
  · exact requestLaw_of_none rfl

theorem requestLaw_endCopy (dest : SweepState) : RequestLaw (s.endCopy dest) := requestLaw_of_none rfl

theorem RequestLaw.sweepLinkDown (h : RequestLaw s) : RequestLaw s.sweepLinkDown := by
  unfold State.sweepLinkDown
  split
  · exact h
  · exact h
  · exact requestLaw_of_none rfl

theorem RequestLaw.sessionEnd (h : RequestLaw s) : RequestLaw s.sessionEnd := by
  have hcleared : RequestLaw s.sessionCleared := (h.setFlags (s.journal.records.filterMap Record.block?)).of_same
    (by simp [State.sessionCleared, State.hostSessionEnd])
  rw [State.sessionEnd_eq]
  exact hcleared.sweepLinkDown.retestHost.of_same

theorem RequestLaw.departUp (h : RequestLaw s) (dest : LinkState) : RequestLaw (s.departUp dest) := by
  simp only [State.departUp]
  split
  · exact RequestLaw.sessionEnd (s := s.setLink dest) h
  · exact h

theorem RequestLaw.loseLink (h : RequestLaw s) : RequestLaw s.loseLink := h.departUp .training

theorem RequestLaw.localHalt (h : RequestLaw s) (r : HaltReason) : RequestLaw (s.localHalt r) := by
  unfold State.localHalt
  split
  · exact RequestLaw.departUp (s := s.dueHalt r) h _
  · exact h
  · exact h

theorem requestLaw_advanceCopy (c : Copy) : RequestLaw (s.advanceCopy c) := by
  unfold State.advanceCopy
  split
  · exact requestLaw_of_none rfl
  · exact requestLaw_reserveTest

theorem requestLaw_afterReadTimeout (stop : Bool) : RequestLaw (s.afterReadTimeout stop) := by
  unfold State.afterReadTimeout
  dsimp only
  split
  · exact requestLaw_of_none rfl
  · split
    · exact requestLaw_of_none rfl
    · exact requestLaw_of_none rfl

theorem RequestLaw.sweepLinkUp (h : RequestLaw s) : RequestLaw s.sweepLinkUp := by
  unfold State.sweepLinkUp
  split
  · next hidle =>
    have hnone := h.no_request (by rw [hidle]; nofun)
    split
    · exact requestLaw_of_none hnone
    · exact requestLaw_of_none hnone
  · exact h

theorem RequestLaw.startSweep (h : RequestLaw s) : RequestLaw s.startSweep := by
  unfold State.startSweep
  dsimp only
  split
  · next hstate => exact requestLaw_of_none (h.no_request (by simp [hstate]))
  · next hstate => exact requestLaw_of_none (h.no_request (by simp [hstate]))
  · exact h
  · exact h

theorem RequestLaw.stopSweep (h : RequestLaw s) : RequestLaw s.stopSweep := by
  unfold State.stopSweep
  split
  · next hstate => exact requestLaw_of_none (h.no_request (by simp [hstate]))
  · next hstate => exact requestLaw_of_none (h.no_request (by simp [hstate]))
  · exact h
  · exact RequestLaw.retestHost (requestLaw_of_none rfl)
  · split
    · exact RequestLaw.retestHost (requestLaw_of_none rfl)
    · exact h

/-! ## What the pair state depends on -/

theorem State.derivedPair_congr {t : State} (hrole : t.role = s.role) (hup : t.link.state = s.link.state)
    (hcount : t.map.count = s.map.count) (hcopy : t.sweep.copy = s.sweep.copy)
    (hbusy : (t.sweep.state = .scanning ∨ t.sweep.state = .copying ∨ t.sweep.state = .waiting) ↔
      (s.sweep.state = .scanning ∨ s.sweep.state = .copying ∨ s.sweep.state = .waiting)) : t.derivedPair = s.derivedPair := by
  simp only [State.derivedPair, hrole, hup, hcount, hcopy, hbusy]

theorem PairLaw.request (h : PairLaw s) : RequestLaw s := h.2

/-- Nothing the pair state depends on changed, and no more requests. -/
theorem PairLaw.of_same {t : State} (h : PairLaw s) (hstate : t.sweep.state = s.sweep.state := by simp)
    (hcopy : t.sweep.copy = s.sweep.copy := by simp) (hrequest : t.sweep.request = true → s.sweep.request = true := by simp)
    (hcount : t.map.count = s.map.count := by simp) (hpair : t.pair.state = s.pair.state := by simp) (hrole : t.role = s.role := by simp)
    (hup : t.link.state = s.link.state := by simp) : PairLaw t := by
  obtain ⟨hderived, hcopying⟩ := h
  refine ⟨?_, fun hr => hstate.trans (hcopying (hrequest hr))⟩
  rw [hpair, State.derivedPair_congr hrole hup hcount hcopy (by rw [hstate])]
  exact hderived

theorem pairLaw_derivePair (h : RequestLaw s) : PairLaw s.derivePair := by
  refine ⟨?_, h.of_same⟩
  rw [State.derivePair_state]
  exact (State.derivedPair_congr (by simp) (by simp) (by simp) (by simp) (by simp)).symm

theorem PairLaw.kick (h : PairLaw s) : PairLaw s.kick := h.of_same

/-- R141: the derivation at the end of an event. -/
theorem pairLaw_finish (h : RequestLaw s) : PairLaw s.finish := (pairLaw_derivePair h).kick

theorem PairLaw.markDirty (h : PairLaw s) (bs : List Block) : PairLaw (s.markDirty bs) := by
  unfold State.markDirty
  split
  · exact h
  · exact pairLaw_derivePair (h.request.setFlags bs)

theorem PairLaw.timedOut (h : PairLaw s) (ds : List Block) : PairLaw (s.timedOut ds) :=
  PairLaw.markDirty (s := (s.bump .memoryTimeouts).report .memoryTimeout) h ds

/-- R61: the sweep waits and takes its request up again with its copy kept. -/
theorem PairLaw.sweepFall (h : PairLaw s) : PairLaw s.sweepFall := by
  unfold State.sweepFall
  split
  · next hfall =>
    have hcopying := h.request hfall.1
    refine ⟨h.1.trans ?_, nofun⟩
    symm
    refine State.derivedPair_congr rfl rfl rfl rfl ?_
    simp [hcopying]
  · exact h

theorem PairLaw.sweepRise (h : PairLaw s) : PairLaw s.sweepRise := by
  unfold State.sweepRise
  split
  · next hrise =>
    refine ⟨h.1.trans ?_, fun _ => rfl⟩
    symm
    refine State.derivedPair_congr rfl rfl rfl rfl ?_
    simp [hrise.1]
  · exact h

theorem PairLaw.retestHost (h : PairLaw s) : PairLaw s.retestHost := by
  unfold State.retestHost
  split
  · split
    · exact h
    · exact PairLaw.sweepFall (s := s.toPortWait true) h
    · exact h
    · exact h
    · exact h
  · exact h

theorem PairLaw.announceRise (h : PairLaw s) : PairLaw s.announceRise := h.retestHost.sweepRise

theorem PairLaw.releaseClaim (h : PairLaw s) : PairLaw s.releaseClaim := by
  unfold State.releaseClaim
  split
  · exact PairLaw.announceRise (s := { s with host := { s.host with claim := false } }) h
  · exact h

theorem PairLaw.handOff (h : PairLaw s) (r : Record) : PairLaw (s.handOff r) := by
  unfold State.handOff
  split
  · unfold State.markerReached
    split
    · exact h
    · exact h
  · split
    · exact h.of_same
    · exact h

theorem PairLaw.removeHead (h : PairLaw s) (n : Nat) : PairLaw (removeHead n s) := by
  induction n generalizing s with
  | zero => exact h
  | succ n ih =>
    unfold Machine.removeHead
    split
    · exact h
    · exact ih (PairLaw.handOff (by exact h) _)

theorem PairLaw.remove (h : PairLaw s) (n : Nat) : PairLaw (s.remove n) := by
  cases n with
  | zero => exact h
  | succ n => exact (h.removeHead (n + 1)).announceRise.of_same (t := (Machine.removeHead (n + 1) s).announceRise.waterTest)

theorem PairLaw.acceptNak (h : PairLaw s) (d : Nat) : PairLaw (s.acceptNak d) := by
  have hremoved : PairLaw (s.remove (s.journal.nakRemoves d)).rewind := h.remove (s.journal.nakRemoves d)
  unfold State.acceptNak
  dsimp only
  split
  · split
    · exact hremoved
    · exact hremoved
  · exact hremoved.of_same

theorem PairLaw.afterParam (h : PairLaw s) (p : Param) (v : BitVec 32) : PairLaw (s.afterParam p v) := by
  unfold State.afterParam
  split
  · exact h.of_same
  · exact h.of_same
  · split
    · exact pairLaw_derivePair h.request.autoStart
    · exact h
  · exact h

end

theorem Effect.keeps_pairLaw {s t : State} (heff : Effect s t) (h : PairLaw s) : PairLaw t := by
  have hreq := h.request
  cases heff with
  | unchanged | ownFields | counters | passes | misaligned | fenced | admitted | stalled => exact h
  | claimed t b => exact PairLaw.sweepFall (s := { s with host := { s.admittedPort t b with claim := true } }) h
  | marked t b => exact PairLaw.markDirty (s := State.bump .overflowMarks { s with host := s.admittedPort t b }) h [b]
  | initDrops | initEndsHold => exact h
  | initReleases => exact PairLaw.sweepRise (s := s.dropHost) h
  | initAbandons => exact h.of_same
  | forwarded => exact PairLaw.of_same (PairLaw.releaseClaim (h.of_same (t := s.countHostGrant)))
  | dirtied t ds =>
    exact PairLaw.of_same ((PairLaw.releaseClaim (h.of_same (t := s.countHostGrant))).markDirty ds)
  | merged t bound =>
    exact PairLaw.of_same (PairLaw.releaseClaim (h.of_same (t := { s.countHostGrant.changeTail (Record.merge t bound) with
      host := { s.host with bound := bound } })))
  | appended | grantFenced | hostHeld | hostDone | hostDiscarded => exact h.of_same
  | hostTimedOut u ds => exact PairLaw.timedOut (h.of_same (t := s.unbind.freePort.answer .fault)) ds
  | abandonedTimedOut u ds => exact PairLaw.timedOut (s := s.freePort) h ds
  | spaceExpired n => exact PairLaw.markDirty (s := State.bump .stallTimeouts (s.toPortWait false)) h [n.block]
  | holdExpired => exact h
  | selected b => exact pairLaw_finish (RequestLaw.retestHost (s := s.select b) requestLaw_reserveTest)
  | sweepGranted c =>
    rw [State.beginSweepRead_eq]
    refine PairLaw.of_same (h.of_same (t := { s with
      mem := { s.mem with use := some ⟨.sweep, ⟨lineAddr s.params.windowBase c.lineIndex, .readLine⟩, s.params.memLimit⟩, sweepWait := 0 },
      sweep := { s.sweep with request := false, read := some ⟨c.lineIndex, true⟩ },
      journal := { s.journal with records := s.journal.records ++ [placeholder c.lineIndex] } }) rfl rfl nofun rfl rfl rfl rfl)
  | readStopped c data => exact pairLaw_finish (RequestLaw.retestHost (requestLaw_endCopy .stopped))
  | readAdvanced c data => exact pairLaw_finish (requestLaw_advanceCopy c).retestHost
  | readTimedOut =>
    have hcounted : RequestLaw (s.endSweepRead.withdrawPlaceholder.remarkCopy.afterReadTimeout s.sweep.stopPending) :=
      requestLaw_afterReadTimeout _
    exact pairLaw_finish hcounted.announceRise.of_same
  | orphanEnded => exact h
  | repeated | kept | resent | frameEnded | heard | startRepeated | dataTaken | nakCounted => exact h.of_same
  | silent => exact pairLaw_finish hreq.loseLink
  | exhausted => exact pairLaw_finish (RequestLaw.localHalt (s := s.rewoundForRetry) hreq _)
  | helloTested => exact pairLaw_finish hreq.of_same
  | helloInUp => exact pairLaw_finish (RequestLaw.of_same (RequestLaw.loseLink (s := s.restartSilence) hreq))
  | startTested => exact pairLaw_finish hreq.of_same
  | startInUp => exact pairLaw_finish (RequestLaw.of_same (RequestLaw.loseLink (s := s.restartSilence) hreq))
  | ready => exact pairLaw_finish (RequestLaw.sweepLinkUp (s := s.enterUp.resetSender) hreq)
  | acked n => exact (PairLaw.remove (s := s.restartSilence) h n).of_same
  | naked d => exact (PairLaw.acceptNak (s := s.restartSilence.bump .naksReceived) h d).of_same
  | halted r => exact pairLaw_finish (RequestLaw.departUp (s := s.restartSilence) hreq .halted)
  | applyGranted => exact h
  | applyContinued => exact pairLaw_finish hreq
  | applied => exact pairLaw_finish hreq.of_same
  | applyFaults => exact pairLaw_finish (RequestLaw.localHalt (s := s.applyFaulted) hreq _)
  | promotionFaults => exact pairLaw_finish (RequestLaw.of_same (RequestLaw.localHalt (s := s.applyFaulted) hreq .applyFault))
  | regionWritten => exact h
  | paramWritten p v => exact PairLaw.afterParam (s := { s with params := s.params.put p v }) h p v
  | becamePrimary => exact pairLaw_finish hreq
  | becameReplica => exact pairLaw_finish hreq
  | leftPrimary => exact pairLaw_finish (requestLaw_of_none (by simp [Sweep.powerOn]))
  | repairStarted => exact pairLaw_derivePair hreq.startSweep
  | repairStopped => exact pairLaw_derivePair hreq.stopSweep
  | markerPlaced tag =>
    unfold State.placeMarker
    exact (PairLaw.sweepFall (s := { s.appendRecord (markerRecord tag) with
      pair := { s.pair with outstanding := s.pair.outstanding ++ [tag] } }) h).of_same
  | markersRead => exact h
  | relinked => exact pairLaw_finish hreq
  | promoted =>
    rw [State.beginPromotion_eq, State.promotionBegun_frame]
    exact pairLaw_finish hreq.of_same
  | faultCleared | alertsRead | alertsAcked | alertsEnabled => exact h
  | softReset | powerOnReset => exact ⟨rfl, nofun⟩

/-- Settles O6: every effect keeps the law, and so does every step. -/
theorem stepKeepsPairLaw : Obligations.StepKeepsPairLaw := fun _ _ =>
  step_keeps (fun _ _ _ _ _ h => h) (fun _ _ _ _ _ h => h) (fun _ _ => Effect.keeps_pairLaw)

end Sys2Proof.Machine

/-! PROOF. The marker law (R145, R149): the outstanding list and the journal's MARKER records keep step. -/

namespace Sys2Proof.Machine

open Sys2Proof

set_option Elab.async false

/-! ## What of the records the law looks at -/

/-- A record's tag, and whether it waits for its data. -/
def Record.marking (r : Record) : Option Tag × Bool := (r.tag?, r.state == .filling)

theorem Record.marking_of_contents {r x : Record} (h : r.contents = x.contents) : r.marking = x.marking := by
  simp only [Record.contents, Prod.mk.injEq] at h
  obtain ⟨hbody, -, hfilling⟩ := h
  rw [Record.marking, Record.marking, Record.tag?, Record.tag?, hbody, hfilling]

theorem map_marking_of_contents {rs xs : List Record} (h : rs.map Record.contents = xs.map Record.contents) :
    rs.map Record.marking = xs.map Record.marking := map_eq_of_contents (fun _ _ => Record.marking_of_contents) h

/-- No MARKER record waits for data (R29). -/
def MarkersWhole (rs : List Record) : Prop := ∀ r ∈ rs, r.state = .filling → r.tag? = none

theorem filterMap_tag_of_marking {rs xs : List Record} (h : rs.map Record.marking = xs.map Record.marking) :
    rs.filterMap Record.tag? = xs.filterMap Record.tag? := by
  have hview (l : List Record) : l.filterMap Record.tag? = (l.map Record.marking).filterMap Prod.fst := by
    rw [List.filterMap_map]
    rfl
  rw [hview, hview, h]

theorem markersWhole_iff (rs : List Record) : MarkersWhole rs ↔ ∀ v ∈ rs.map Record.marking, v.2 = true → v.1 = none := by
  simp [MarkersWhole, Record.marking]

theorem MarkersWhole.of_marking {rs xs : List Record} (hx : MarkersWhole xs) (h : rs.map Record.marking = xs.map Record.marking) :
    MarkersWhole rs := by
  rw [markersWhole_iff, h, ← markersWhole_iff]
  exact hx

theorem MarkersWhole.append {rs : List Record} {r : Record} (h : MarkersWhole rs) (hr : r.state = .filling → r.tag? = none) :
    MarkersWhole (rs ++ [r]) := by
  intro x hx
  rcases List.mem_append.mp hx with hx | hx
  · exact h x hx
  · obtain rfl : x = r := by simpa using hx
    exact hr

theorem Record.clearedWaiter_marking (r : Record) : Record.marking { r with waiter := false } = r.marking := rfl

theorem Record.rewind_marking (r : Record) : r.rewind.marking = r.marking := by
  unfold Record.rewind
  split
  · next h =>
    have hstate : (RecState.resend == RecState.filling) = (RecState.sent == RecState.filling) := rfl
    simp [Record.marking, Record.tag?, h, hstate]
  · rfl

theorem Record.merge_marking (t : BusTxn) (bound : Bool) (r : Record) : (r.merge t bound).marking = r.marking := by
  unfold Record.merge
  split
  · next h => simp [Record.marking, Record.tag?, h]
  · rfl

theorem map_marking_map {f : Record → Record} (hf : ∀ r, (f r).marking = r.marking) (rs : List Record) :
    (rs.map f).map Record.marking = rs.map Record.marking := by
  simp [hf]

theorem State.unbind_marking (s : State) : s.unbind.journal.records.map Record.marking = s.journal.records.map Record.marking := by
  unfold State.unbind
  split
  · exact map_marking_map Record.clearedWaiter_marking _
  · rfl

/-- A read that completes makes an IMAGE record of a placeholder: no tag comes or goes (R38). -/
theorem Record.fill_tag (data : LineBytes) (r : Record) : (r.fill data).tag? = r.tag? := by
  unfold Record.fill
  split
  · next h => simp [Record.tag?, h]
  · rfl

theorem Record.fill_whole {data : LineBytes} {r : Record} (h : r.state = .filling → r.tag? = none) (hf : (r.fill data).state = .filling) :
    (r.fill data).tag? = none := by
  rw [Record.fill_tag]
  refine h ?_
  unfold Record.fill at hf
  split at hf
  · simp at hf
  · exact hf

/-! ## The results list (R149) -/

section
variable {s : State}

theorem State.addResult_length (e : MarkerResult) (h : s.pair.results.length ≤ 8) : (s.addResult e).pair.results.length ≤ 8 := by
  simp only [State.addResult, List.length_append, List.length_drop, List.length_singleton, Config.markerSlots]
  omega

theorem failTags_length (ts : List Tag) (h : s.pair.results.length ≤ 8) : (failTags ts s).pair.results.length ≤ 8 := by
  induction ts generalizing s with
  | nil => exact h
  | cons t rest ih => exact ih (State.addResult_length _ h)

theorem State.failMarkers_length (h : s.pair.results.length ≤ 8) : s.failMarkers.pair.results.length ≤ 8 := failTags_length _ h

theorem State.sessionEnd_pair (s : State) :
    s.sessionEnd.pair = (s.setFlags (s.journal.records.filterMap Record.block?)).failMarkers.pair := by
  simp [State.sessionEnd, State.hostSessionEnd]

/-! ## The law -/

theorem MarkerLaw.of_marking {t : State} (h : MarkerLaw s)
    (hrecords : t.journal.records.map Record.marking = s.journal.records.map Record.marking := by simp)
    (hpair : t.pair.outstanding = s.pair.outstanding := by simp) (hresults : t.pair.results = s.pair.results := by simp) : MarkerLaw t := by
  obtain ⟨htags, hroom, hresult, hwhole⟩ := h
  rw [MarkerLaw, hpair, hresults, filterMap_tag_of_marking hrecords]
  exact ⟨htags, hroom, hresult, MarkersWhole.of_marking hwhole hrecords⟩

theorem MarkerLaw.kick (h : MarkerLaw s) : MarkerLaw s.kick := h.of_marking (map_marking_of_contents s.kick_contents)

theorem MarkerLaw.waterTest (h : MarkerLaw s) : MarkerLaw s.waterTest := h.of_marking (by rw [State.waterTest_records])

theorem MarkerLaw.derivePair (h : MarkerLaw s) : MarkerLaw s.derivePair := by
  refine h.of_marking (by simp) ?_ ?_ <;> rw [State.derivePair_state]

theorem MarkerLaw.finish (h : MarkerLaw s) : MarkerLaw s.finish := h.derivePair.kick

theorem MarkerLaw.markDirty (h : MarkerLaw s) (bs : List Block) : MarkerLaw (s.markDirty bs) := by
  unfold State.markDirty
  split
  · exact h
  · exact MarkerLaw.derivePair h.of_marking

theorem MarkerLaw.timedOut (h : MarkerLaw s) (ds : List Block) : MarkerLaw (s.timedOut ds) :=
  MarkerLaw.markDirty (s := (s.bump .memoryTimeouts).report .memoryTimeout) h ds

/-- Neither a marker nor a MARKER record is left, as after a session end. -/
theorem markerLaw_of_empty (hrecords : s.journal.records = []) (hpair : s.pair.outstanding = []) (hresults : s.pair.results.length ≤ 8) :
    MarkerLaw s := by
  simp [MarkerLaw, hrecords, hpair, hresults]

theorem MarkerLaw.sessionEnd (h : MarkerLaw s) : MarkerLaw s.sessionEnd := by
  obtain ⟨-, -, hresults, -⟩ := h
  refine markerLaw_of_empty s.sessionEnd_records s.sessionEnd_outstanding ?_
  rw [State.sessionEnd_pair]
  exact State.failMarkers_length (by simpa using hresults)

theorem MarkerLaw.departUp (h : MarkerLaw s) (dest : LinkState) : MarkerLaw (s.departUp dest) := by
  simp only [State.departUp]
  split
  · exact MarkerLaw.sessionEnd (s := s.setLink dest) h
  · exact h

theorem MarkerLaw.loseLink (h : MarkerLaw s) : MarkerLaw s.loseLink := h.departUp .training

theorem MarkerLaw.localHalt (h : MarkerLaw s) (r : HaltReason) : MarkerLaw (s.localHalt r) := by
  unfold State.localHalt
  split
  · exact MarkerLaw.departUp (s := s.dueHalt r) h _
  · exact h
  · exact h

theorem State.markerReached_of_cons {tag : Tag} {rest : List Tag} (h : s.pair.outstanding = tag :: rest) :
    s.markerReached = (State.addResult { tag := tag, outcome := .reached }
      { s with pair := { s.pair with outstanding := rest } }).report .markerDone := by
  rw [State.markerReached, h]

/-- R147: a MARKER record removed takes the first tag of the outstanding list with it. -/
theorem MarkerLaw.handOff_head {r : Record} {rest : List Record} (h : MarkerLaw s) (hrs : s.journal.records = r :: rest) :
    MarkerLaw (State.handOff r { s with journal := { s.journal with records := rest } }) := by
  obtain ⟨htags, hroom, hresults, hwhole⟩ := h
  rw [hrs] at htags hwhole
  have hwhole' : MarkersWhole rest := fun x hx => hwhole x (List.mem_cons_of_mem _ hx)
  unfold State.handOff
  split
  · next tag hbody =>
    have htag : r.tag? = some tag := by simp [Record.tag?, hbody]
    rw [List.filterMap_cons_some htag] at htags
    have hlen : (rest.filterMap Record.tag?).length ≤ 8 := by
      rw [htags, List.length_cons] at hroom
      omega
    rw [State.markerReached_of_cons (s := { s with journal := { s.journal with records := rest } }) htags]
    exact ⟨rfl, hlen, State.addResult_length _ hresults, hwhole'⟩
  · next hbody =>
    have htag : r.tag? = none := by
      unfold Record.tag?
      split
      · next t ht => exact absurd ht (hbody t)
      · rfl
    rw [List.filterMap_cons_none htag] at htags
    have hkept : MarkerLaw { s with journal := { s.journal with records := rest } } := ⟨htags, hroom, hresults, hwhole'⟩
    split
    · exact hkept.of_marking
    · exact hkept

theorem MarkerLaw.removeHead (h : MarkerLaw s) (n : Nat) : MarkerLaw (removeHead n s) := by
  induction n generalizing s with
  | zero => exact h
  | succ n ih =>
    unfold Machine.removeHead
    split
    · exact h
    · next r rest hrs => exact ih (h.handOff_head hrs)

theorem MarkerLaw.remove (h : MarkerLaw s) (n : Nat) : MarkerLaw (s.remove n) := by
  cases n with
  | zero => exact h
  | succ n =>
    have hannounced : MarkerLaw (Machine.removeHead (n + 1) s).announceRise := MarkerLaw.of_marking (h.removeHead (n + 1))
    exact hannounced.waterTest

theorem MarkerLaw.rewind (h : MarkerLaw s) : MarkerLaw s.rewind := h.of_marking (map_marking_map Record.rewind_marking _)

theorem MarkerLaw.acceptNak (h : MarkerLaw s) (d : Nat) : MarkerLaw (s.acceptNak d) := by
  have hremoved := (h.remove (s.journal.nakRemoves d)).rewind
  unfold State.acceptNak
  dsimp only
  split
  · split
    · exact hremoved
    · exact hremoved
  · exact hremoved.of_marking

/-- A record with no tag joins the journal. -/
theorem MarkerLaw.appendPlain {r : Record} (h : MarkerLaw s) (hr : r.tag? = none) : MarkerLaw (s.appendRecord r) := by
  obtain ⟨htags, hroom, hresults, hwhole⟩ := h
  refine ⟨?_, hroom, hresults, MarkersWhole.append hwhole fun _ => hr⟩
  simpa [State.appendRecord, List.filterMap_append, hr] using htags

theorem MarkerLaw.fillPlaceholder (h : MarkerLaw s) (data : LineBytes) : MarkerLaw (s.fillPlaceholder data) := by
  obtain ⟨htags, hroom, hresults, hwhole⟩ := h
  refine ⟨?_, hroom, hresults, ?_⟩
  · simpa [State.fillPlaceholder, Function.comp_def, Record.fill_tag] using htags
  · intro x hx
    obtain ⟨r, hr, rfl⟩ := List.mem_map.mp hx
    exact Record.fill_whole (hwhole r hr)

theorem filterMap_congr_of_mem {α β : Type} {f g : α → Option β} : ∀ {l : List α}, (∀ x ∈ l, f x = g x) → l.filterMap f = l.filterMap g
  | [], _ => rfl
  | x :: rest, h => by
    have hrest : rest.filterMap f = rest.filterMap g := filterMap_congr_of_mem fun y hy => h y (List.mem_cons_of_mem x hy)
    rw [List.filterMap_cons, List.filterMap_cons, h x (List.mem_cons_self), hrest]

/-- R39: a placeholder that goes is no MARKER record. -/
theorem MarkerLaw.withdrawPlaceholder (h : MarkerLaw s) : MarkerLaw s.withdrawPlaceholder := by
  obtain ⟨htags, hroom, hresults, hwhole⟩ := h
  have hkept : (s.journal.records.filter fun r => r.state != .filling).filterMap Record.tag? = s.journal.records.filterMap Record.tag? := by
    rw [List.filterMap_filter]
    refine filterMap_congr_of_mem fun r hr => ?_
    by_cases hf : r.state = .filling
    · simp [hf, hwhole r hr hf]
    · simp [hf]
  refine MarkerLaw.of_marking (s := { s with journal := { s.journal with
    records := s.journal.records.filter fun r => r.state != .filling } }) ?_ ?_
  · exact ⟨htags.trans hkept.symm, hroom, hresults, fun x hx => hwhole x (List.mem_filter.mp hx).1⟩
  · simp [State.withdrawPlaceholder]

theorem MarkerLaw.afterParam (h : MarkerLaw s) (p : Param) (v : BitVec 32) : MarkerLaw (s.afterParam p v) := by
  unfold State.afterParam
  split
  · exact h.waterTest
  · exact h.waterTest
  · split
    · exact MarkerLaw.derivePair h.of_marking
    · exact h
  · exact h

/-- R140: the markers fail with the session, or where the link was not UP with the role. -/
theorem MarkerLaw.leavePrimary (h : MarkerLaw s) : MarkerLaw s.leavePrimary := by
  have hlink : MarkerLaw s.linkLeavePrimary := by
    unfold State.linkLeavePrimary
    dsimp only
    split
    · exact MarkerLaw.departUp (s := s.dueHalt _) h _
    · exact h
  obtain ⟨-, -, hresults, -⟩ := hlink
  refine MarkerLaw.finish (markerLaw_of_empty ?_ ?_ ?_)
  · simp [Journal.powerOn]
  · simp [State.failMarkers_outstanding]
  · simpa using State.failMarkers_length (by exact hresults)

end

theorem Effect.keeps_markerLaw {s t : State} (heff : Effect s t) (h : MarkerLaw s) : MarkerLaw t := by
  cases heff with
  | unchanged | ownFields | counters | passes | misaligned | fenced | admitted | stalled => exact h
  | claimed => exact h.of_marking
  | marked t b => exact MarkerLaw.markDirty (s := State.bump .overflowMarks { s with host := s.admittedPort t b }) h [b]
  | initDrops | initReleases => exact h.of_marking
  | initAbandons => exact h.of_marking (by simpa using s.unbind_marking)
  | initEndsHold | holdExpired => exact h.of_marking (map_marking_map Record.clearedWaiter_marking _)
  | forwarded => exact h.of_marking
  | dirtied t ds => exact MarkerLaw.markDirty (s := s.countHostGrant.releaseClaim) h.of_marking ds
  | merged t bound =>
    exact h.of_marking (by simpa [State.changeTail] using map_changeLast (Record.merge_marking t bound) s.journal.records)
  | appended t bound =>
    have hcounted : MarkerLaw s.countHostGrant := h.of_marking
    have hjoined : MarkerLaw { s.countHostGrant.appendRecord (lineRecord (s.txnLine t) t bound) with
        host := { s.host with claim := false, bound := bound } } := hcounted.appendPlain rfl
    exact hjoined.waterTest.kick
  | grantFenced | hostHeld | hostDone | hostDiscarded => exact h.of_marking
  | hostTimedOut u ds =>
    exact MarkerLaw.timedOut (h.of_marking (t := s.unbind.freePort.answer .fault) (by simpa using s.unbind_marking)) ds
  | abandonedTimedOut u ds => exact MarkerLaw.timedOut (s := s.freePort) h ds
  | spaceExpired n => exact MarkerLaw.markDirty (s := State.bump .stallTimeouts (s.toPortWait false)) h [n.block]
  | selected => exact MarkerLaw.finish h.of_marking
  | sweepGranted c =>
    have hjoined : MarkerLaw (s.appendRecord (placeholder c.lineIndex)) := h.appendPlain rfl
    rw [State.beginSweepRead_eq]
    exact MarkerLaw.waterTest hjoined
  | readStopped c data =>
    have hfilled : MarkerLaw (s.readFilled data) := h.fillPlaceholder data
    exact MarkerLaw.finish hfilled.of_marking
  | readAdvanced c data =>
    have hfilled : MarkerLaw (s.readFilled data) := h.fillPlaceholder data
    exact MarkerLaw.finish hfilled.of_marking
  | readTimedOut =>
    have hgone : MarkerLaw s.endSweepRead.withdrawPlaceholder := MarkerLaw.withdrawPlaceholder (s := s.endSweepRead) h
    have hannounced : MarkerLaw
        (s.endSweepRead.withdrawPlaceholder.remarkCopy.afterReadTimeout s.sweep.stopPending).announceRise := hgone.of_marking
    exact hannounced.waterTest.finish
  | orphanEnded | heard | nakCounted => exact h
  | repeated => exact MarkerLaw.kick h.of_marking
  | kept => exact MarkerLaw.kick h
  | silent => exact h.loseLink.finish
  | resent => exact MarkerLaw.kick (s := s.rewoundForRetry.startRetx) h.rewind
  | exhausted => exact MarkerLaw.finish (MarkerLaw.localHalt (s := s.rewoundForRetry) h.rewind _)
  | frameEnded => exact MarkerLaw.kick h
  | helloTested => exact MarkerLaw.finish h.of_marking
  | helloInUp => exact MarkerLaw.finish (MarkerLaw.of_marking (MarkerLaw.loseLink (s := s.restartSilence) h))
  | startTested => exact MarkerLaw.finish h.of_marking
  | startRepeated => exact MarkerLaw.kick h
  | startInUp => exact MarkerLaw.finish (MarkerLaw.of_marking (MarkerLaw.loseLink (s := s.restartSilence) h))
  | ready => exact MarkerLaw.finish h.of_marking
  | dataTaken r => exact MarkerLaw.kick h.of_marking
  | acked n => exact MarkerLaw.kick (MarkerLaw.of_marking (MarkerLaw.remove (s := s.restartSilence) h n))
  | naked d => exact MarkerLaw.kick (MarkerLaw.acceptNak (s := s.restartSilence.bump .naksReceived) h d)
  | halted r => exact MarkerLaw.finish (MarkerLaw.departUp (s := s.restartSilence) h .halted)
  | applyGranted => exact h
  | applyContinued => exact MarkerLaw.finish h
  | applied => exact MarkerLaw.finish h.of_marking
  | applyFaults => exact MarkerLaw.finish (MarkerLaw.localHalt (s := s.applyFaulted) h _)
  | promotionFaults => exact MarkerLaw.finish (MarkerLaw.of_marking (MarkerLaw.localHalt (s := s.applyFaulted) h .applyFault))
  | regionWritten => exact h
  | paramWritten p v => exact MarkerLaw.afterParam (s := { s with params := s.params.put p v }) h p v
  | becamePrimary => exact MarkerLaw.finish h
  | becameReplica => exact MarkerLaw.finish h
  | leftPrimary => exact h.leavePrimary
  | repairStarted => exact MarkerLaw.derivePair h.of_marking
  | repairStopped => exact MarkerLaw.derivePair h.of_marking
  | markerPlaced tag hrole hpair hroom =>
    obtain ⟨htags, -, hresults, hwhole⟩ := h
    have hplaced : MarkerLaw { s.appendRecord (markerRecord tag) with
        pair := { s.pair with outstanding := s.pair.outstanding ++ [tag] } } := by
      refine ⟨?_, ?_, hresults, MarkersWhole.append hwhole nofun⟩
      · rw [htags]
        simp [State.appendRecord, markerRecord, Record.tag?]
      · rw [List.length_append]
        exact hroom
    have hfallen : MarkerLaw (State.sweepFall { s.appendRecord (markerRecord tag) with
        pair := { s.pair with outstanding := s.pair.outstanding ++ [tag] } }) := hplaced.of_marking
    exact hfallen.waterTest.kick
  | markersRead =>
    obtain ⟨htags, hroom, -, hwhole⟩ := h
    exact ⟨htags, hroom, Nat.zero_le 8, hwhole⟩
  | relinked => exact MarkerLaw.finish h
  | promoted =>
    rw [State.beginPromotion_eq, State.promotionBegun_frame]
    exact MarkerLaw.finish h.of_marking
  | faultCleared | alertsRead | alertsAcked | alertsEnabled => exact h
  | softReset | powerOnReset => exact markerLaw_of_empty rfl rfl (Nat.zero_le 8)

/-- Settles O11: every effect keeps the law, and so does every step. -/
theorem stepKeepsMarkerLaw : Obligations.StepKeepsMarkerLaw := fun _ _ =>
  step_keeps (fun _ _ _ _ _ h => h) (fun _ _ _ _ _ h => h) (fun _ _ => Effect.keeps_markerLaw)

end Sys2Proof.Machine

/-! PROOF. The journal law (R31, R33, R45, R98): the records sent and not yet acknowledged stand at the journal's head with a run of numbers,
and nothing behind them has one. -/

namespace Sys2Proof.Machine

open Sys2Proof

set_option Elab.async false

/-! ## What of the records the law looks at -/

/-- Whether a record is SENT or RESEND, and its number. -/
def Record.delivery (r : Record) : Bool × Option SeqNo := (r.isOutstanding, r.seq)

/-- A record sent with number n. -/
def sentAs (n : SeqNo) : Bool × Option SeqNo := (true, some n)

/-- The journal's shape: n records sent, their numbers running up to the next number, and then records that were not sent. -/
def SentFirst (rs : List Record) (next : SeqNo) (n : Nat) : Prop :=
  ∃ m, rs.map Record.delivery = (seqRun (next - BitVec.ofNat 8 n) n).map sentAs ++ List.replicate m (false, none)

theorem seqRun_length (n : SeqNo) (k : Nat) : (seqRun n k).length = k := by
  induction k generalizing n with
  | zero => rfl
  | succ k ih => simp [seqRun, ih]

theorem seqRun_drop (e : SeqNo) {n k : Nat} (h : k ≤ n) :
    (seqRun (e - BitVec.ofNat 8 n) n).drop k = seqRun (e - BitVec.ofNat 8 (n - k)) (n - k) := by
  induction k generalizing n with
  | zero => rfl
  | succ k ih =>
    cases n with
    | zero => simp at h
    | succ n =>
      rw [seqRun, List.drop_succ_cons, sub_ofNat_succ, ih (Nat.le_of_succ_le_succ h), Nat.succ_sub_succ]

theorem holds_of_mem_takeWhile {α : Type} {p : α → Bool} {x : α} : ∀ {l : List α}, x ∈ l.takeWhile p → p x = true
  | [], h => absurd h List.not_mem_nil
  | y :: rest, h => by
    rw [List.takeWhile_cons] at h
    split at h
    · next hy =>
      rcases List.mem_cons.mp h with hx | hx
      · exact hx.symm ▸ hy
      · exact holds_of_mem_takeWhile hx
    · exact absurd h List.not_mem_nil

/-- The law's words about the head and the rest, as a shape. -/
theorem sentFirst_of_front {j : Journal} {next : SeqNo}
    (hrun : j.front.map Record.seq = (seqRun (next - BitVec.ofNat 8 j.front.length) j.front.length).map some)
    (hrest : ∀ r ∈ j.back, r.isOutstanding = false ∧ r.seq = none) : SentFirst j.records next j.front.length := by
  refine ⟨j.back.length, ?_⟩
  have hfront : j.front.map Record.delivery = (seqRun (next - BitVec.ofNat 8 j.front.length) j.front.length).map sentAs := by
    have hview : j.front.map Record.delivery = (j.front.map Record.seq).map fun x => (true, x) := by
      rw [List.map_map]
      refine List.map_congr_left fun r hr => ?_
      have hout : r.isOutstanding = true := holds_of_mem_takeWhile hr
      simp [Record.delivery, hout]
    rw [hview, hrun, List.map_map]
    rfl
  have hback : j.back.map Record.delivery = List.replicate j.back.length (false, none) := by
    rw [List.eq_replicate_iff]
    refine ⟨List.length_map _, fun d hd => ?_⟩
    obtain ⟨r, hr, rfl⟩ := List.mem_map.mp hd
    obtain ⟨hsent, hseq⟩ := hrest r hr
    rw [Record.delivery, hsent, hseq]
  rw [← hfront, ← hback, ← List.map_append, Journal.front, Journal.back, List.takeWhile_append_dropWhile]

theorem SentFirst.front_length {j : Journal} {next : SeqNo} {n : Nat} (h : SentFirst j.records next n) : j.front.length = n := by
  obtain ⟨m, h⟩ := h
  have hview : j.front.map Record.delivery = (j.records.map Record.delivery).takeWhile Prod.fst := by
    rw [List.takeWhile_map]
    rfl
  rw [← List.length_map (f := Record.delivery), hview, h, List.takeWhile_append_of_pos]
  · simp [seqRun_length]
  · simp [sentAs]

theorem SentFirst.front {j : Journal} {next : SeqNo} {n : Nat} (h : SentFirst j.records next n) :
    j.front.map Record.seq = (seqRun (next - BitVec.ofNat 8 n) n).map some := by
  obtain ⟨m, h⟩ := h
  have hview : j.front.map Record.seq = ((j.records.map Record.delivery).takeWhile Prod.fst).map Prod.snd := by
    rw [List.takeWhile_map, List.map_map]
    rfl
  rw [hview, h, List.takeWhile_append_of_pos]
  · simp [sentAs, Function.comp_def]
  · simp [sentAs]

theorem SentFirst.back {j : Journal} {next : SeqNo} {n : Nat} (h : SentFirst j.records next n) :
    ∀ r ∈ j.back, r.isOutstanding = false ∧ r.seq = none := by
  obtain ⟨m, h⟩ := h
  have hview : j.back.map Record.delivery = List.replicate m (false, none) := by
    have hdrop : j.back.map Record.delivery = (j.records.map Record.delivery).dropWhile Prod.fst := by
      rw [List.dropWhile_map]
      rfl
    rw [hdrop, h, List.dropWhile_append_of_pos]
    · simp
    · simp [sentAs]
  intro r hr
  have hd : r.delivery ∈ List.replicate m (false, none) := hview ▸ List.mem_map_of_mem hr
  have heq := List.eq_of_mem_replicate hd
  exact Prod.mk.inj heq

/-! ## What keeps the shape -/

theorem SentFirst.congr {rs xs : List Record} {next : SeqNo} {n : Nat} (h : SentFirst rs next n)
    (hsame : xs.map Record.delivery = rs.map Record.delivery) : SentFirst xs next n := by
  obtain ⟨m, h⟩ := h
  exact ⟨m, hsame.trans h⟩

theorem SentFirst.append {rs : List Record} {next : SeqNo} {n : Nat} {r : Record} (h : SentFirst rs next n)
    (hr : r.delivery = (false, none)) : SentFirst (rs ++ [r]) next n := by
  obtain ⟨m, h⟩ := h
  refine ⟨m + 1, ?_⟩
  rw [List.map_append, h, List.map_singleton, hr, List.append_assoc, List.replicate_succ']

/-- Records that were not sent may be taken out. -/
theorem SentFirst.filter {rs : List Record} {next : SeqNo} {n : Nat} {p : Record → Bool} (h : SentFirst rs next n)
    (hp : ∀ r : Record, r.isOutstanding = true → p r = true) : SentFirst (rs.filter p) next n := by
  obtain ⟨m, h⟩ := h
  obtain ⟨sent, rest, rfl, hsent, hrest⟩ := List.map_eq_append_iff.mp h
  have hkept : sent.filter p = sent := by
    refine List.filter_eq_self.mpr fun r hr => hp r ?_
    have hd : r.delivery ∈ (seqRun (next - BitVec.ofNat 8 n) n).map sentAs := hsent ▸ List.mem_map_of_mem hr
    obtain ⟨x, -, hx⟩ := List.mem_map.mp hd
    exact (congrArg Prod.fst hx).symm
  refine ⟨(rest.filter p).length, ?_⟩
  rw [List.filter_append, hkept, List.map_append, hsent]
  congr 1
  rw [List.eq_replicate_iff]
  refine ⟨List.length_map _, fun d hd => ?_⟩
  obtain ⟨r, hr, rfl⟩ := List.mem_map.mp hd
  exact List.eq_of_mem_replicate (hrest ▸ List.mem_map_of_mem (List.mem_filter.mp hr).1)

/-- R43: records removed from the head. -/
theorem SentFirst.drop {rs : List Record} {next : SeqNo} {n k : Nat} (h : SentFirst rs next n) (hk : k ≤ n) :
    SentFirst (rs.drop k) next (n - k) := by
  obtain ⟨m, h⟩ := h
  refine ⟨m, ?_⟩
  rw [List.map_drop, h, List.drop_append_of_le_length (by simpa [seqRun_length] using hk), ← List.map_drop, seqRun_drop next hk]

/-- R98: the outstanding count is the length of the run. -/
theorem SentFirst.outstanding {j : Journal} {next : SeqNo} {n : Nat} (h : SentFirst j.records next n) : j.outstanding = n := by
  obtain ⟨m, h⟩ := h
  have hview : j.outstanding = (j.records.map Record.delivery).countP Prod.fst := by
    rw [List.countP_map]
    rfl
  rw [hview, h, List.countP_append, List.countP_map, List.countP_replicate]
  simp [sentAs, Function.comp_def, seqRun_length]

/-- R101: a first send gives the record right behind the run the next number. -/
theorem sendFirst_delivery {rs rs' : List Record} {r : Record} {number : SeqNo} {xs : List SeqNo} {m : Nat}
    (h : rs.map Record.delivery = xs.map sentAs ++ List.replicate m (false, none)) (hsend : sendFirst number rs = some (r, rs')) :
    ∃ m', rs'.map Record.delivery = (xs ++ [number]).map sentAs ++ List.replicate m' (false, none) := by
  induction rs generalizing xs r rs' with
  | nil => simp [sendFirst] at hsend
  | cons x rest ih =>
    cases xs with
    | nil =>
      cases m with
      | zero => simp at h
      | succ m =>
        simp only [List.map_cons, List.map_nil, List.nil_append, List.replicate_succ, List.cons.injEq] at h
        obtain ⟨hx, hrest⟩ := h
        have hunsent : x.isOutstanding = false := congrArg Prod.fst hx
        unfold sendFirst at hsend
        split at hsend
        · obtain ⟨-, rfl⟩ : _ ∧ _ = rs' := by simpa using hsend
          exact ⟨m, by simp [hrest, Record.delivery, Record.isOutstanding, sentAs]⟩
        · simp at hsend
        · next hq hf => cases hs : x.state <;> simp_all [Record.isOutstanding]
    | cons y ys =>
      simp only [List.map_cons, List.cons_append, List.cons.injEq] at h
      obtain ⟨hx, hrest⟩ := h
      have hsent : x.isOutstanding = true := congrArg Prod.fst hx
      unfold sendFirst at hsend
      split at hsend
      · next hq => simp [Record.isOutstanding, hq] at hsent
      · simp at hsend
      · obtain ⟨p, hp, hpair⟩ := Option.map_eq_some_iff.mp hsend
        obtain ⟨-, rfl⟩ : p.1 = r ∧ x :: p.2 = rs' := by simpa using hpair
        obtain ⟨m', hm'⟩ := ih hrest hp
        exact ⟨m', by simp [hm', hx]⟩

theorem SentFirst.send {rs rs' : List Record} {r : Record} {next : SeqNo} {n : Nat} (h : SentFirst rs next n)
    (hsend : sendFirst next rs = some (r, rs')) : SentFirst rs' (next + 1) (n + 1) := by
  obtain ⟨m, h⟩ := h
  obtain ⟨m', hm'⟩ := sendFirst_delivery h hsend
  have hstart : next + 1 - BitVec.ofNat 8 (n + 1) = next - BitVec.ofNat 8 n := by
    rw [BitVec.ofNat_add]
    generalize BitVec.ofNat 8 n = k
    bv_omega
  refine ⟨m', ?_⟩
  rw [hm', hstart, seqRun_append, BitVec.sub_add_cancel]

/-! ## What changes no record's delivery -/

theorem resendFirst_delivery {rs rs' : List Record} {r : Record} (h : resendFirst rs = some (r, rs')) :
    rs'.map Record.delivery = rs.map Record.delivery := by
  induction rs generalizing r rs' with
  | nil => simp [resendFirst] at h
  | cons x rest ih =>
    unfold resendFirst at h
    split at h
    · next hx =>
      obtain ⟨-, rfl⟩ : _ ∧ _ = rs' := by simpa using h
      simp [Record.delivery, Record.isOutstanding, hx]
    · obtain ⟨p, hp, hrs⟩ := Option.map_eq_some_iff.mp h
      obtain ⟨-, rfl⟩ : p.1 = r ∧ x :: p.2 = rs' := by simpa using hrs
      simp [ih hp]

theorem Record.rewind_delivery (r : Record) : r.rewind.delivery = r.delivery := by
  unfold Record.rewind
  split
  · next h => simp [Record.delivery, Record.isOutstanding, h]
  · rfl

theorem Record.merge_delivery (t : BusTxn) (bound : Bool) (r : Record) : (r.merge t bound).delivery = r.delivery := by
  unfold Record.merge
  split <;> rfl

theorem Record.fill_delivery (data : LineBytes) (r : Record) : (r.fill data).delivery = r.delivery := by
  unfold Record.fill
  split
  · next h _ =>
    rw [Record.delivery, Record.delivery, Record.isOutstanding, Record.isOutstanding, h]
    rfl
  · rfl

theorem map_delivery_map {f : Record → Record} (hf : ∀ r, (f r).delivery = r.delivery) (rs : List Record) :
    (rs.map f).map Record.delivery = rs.map Record.delivery := by
  simp [hf]

theorem Record.clearedWaiter_delivery (r : Record) : Record.delivery { r with waiter := false } = r.delivery := rfl

theorem State.unbind_delivery (s : State) : s.unbind.journal.records.map Record.delivery = s.journal.records.map Record.delivery := by
  unfold State.unbind
  split
  · exact map_delivery_map Record.clearedWaiter_delivery _
  · rfl

/-! ## The law -/

/-- The journal of a part with no session is empty (R45, R50). -/
def IdleEmpty (s : State) : Prop := s.role ≠ .primary ∨ s.link.state ≠ .up → s.journal.records = []

theorem journalLaw_iff (s : State) :
    JournalLaw s ↔ (∃ n, SentFirst s.journal.records s.sender.next n ∧ n ≤ s.params.windowSize) ∧ s.params.windowSize ≤ 32 ∧
      IdleEmpty s := by
  constructor
  · rintro ⟨hrun, hrest, hwindow, hmax, hidle⟩
    exact ⟨⟨_, sentFirst_of_front hrun hrest, hwindow⟩, hmax, hidle⟩
  · rintro ⟨⟨n, hshape, hwindow⟩, hmax, hidle⟩
    obtain rfl := hshape.front_length
    exact ⟨hshape.front, hshape.back, hwindow, hmax, hidle⟩

section
variable {s : State}

theorem JournalLaw.idle (h : JournalLaw s) : IdleEmpty s := ((journalLaw_iff s).mp h).2.2

theorem JournalLaw.window (h : JournalLaw s) : s.params.windowSize ≤ 32 := ((journalLaw_iff s).mp h).2.1

theorem JournalLaw.shape (h : JournalLaw s) : ∃ n, SentFirst s.journal.records s.sender.next n ∧ n ≤ s.params.windowSize :=
  ((journalLaw_iff s).mp h).1

theorem journalLaw_of_empty (hrecords : s.journal.records = []) (hwindow : s.params.windowSize ≤ 32) : JournalLaw s :=
  (journalLaw_iff s).mpr ⟨⟨0, ⟨0, by rw [hrecords]; rfl⟩, Nat.zero_le _⟩, hwindow, fun _ => hrecords⟩

/-- No record's delivery changed, nor what the law compares with. -/
theorem JournalLaw.of_delivery {t : State} (h : JournalLaw s)
    (hrecords : t.journal.records.map Record.delivery = s.journal.records.map Record.delivery := by simp)
    (hnext : t.sender.next = s.sender.next := by simp) (hwindow : t.params.windowSize = s.params.windowSize := by simp)
    (hrole : t.role = s.role := by simp) (hup : t.link.state = s.link.state := by simp) : JournalLaw t := by
  obtain ⟨⟨n, hshape, hn⟩, hmax, hidle⟩ := (journalLaw_iff s).mp h
  refine (journalLaw_iff t).mpr ⟨⟨n, ?_, hwindow ▸ hn⟩, hwindow ▸ hmax, fun hinactive => ?_⟩
  · rw [hnext]
    exact hshape.congr hrecords
  · rw [hrole, hup] at hinactive
    rw [hidle hinactive] at hrecords
    simpa using hrecords

/-- A part with no session may change its role and its link. -/
theorem JournalLaw.of_idle {t : State} (h : JournalLaw s) (hidle : s.role ≠ .primary ∨ s.link.state ≠ .up)
    (hjournal : t.journal.records = s.journal.records := by simp) (hwindow : t.params.windowSize = s.params.windowSize := by simp) :
    JournalLaw t :=
  journalLaw_of_empty (hjournal.trans (h.idle hidle)) (by rw [hwindow]; exact h.window)

theorem JournalLaw.appendRecord {r : Record} (h : JournalLaw s) (hr : r.delivery = (false, none)) (hrole : s.role = .primary)
    (hup : s.link.state = .up) : JournalLaw (s.appendRecord r) := by
  obtain ⟨⟨n, hshape, hn⟩, hmax, -⟩ := (journalLaw_iff s).mp h
  exact (journalLaw_iff _).mpr ⟨⟨n, hshape.append hr, hn⟩, hmax, fun hidle => (hidle.elim (· hrole) (· hup)).elim⟩

theorem JournalLaw.waterTest (h : JournalLaw s) : JournalLaw s.waterTest := h.of_delivery (by rw [State.waterTest_records])

theorem State.recordSent_next (rs : List Record) (s : State) : (s.recordSent rs).sender.next = s.sender.next + 1 := by
  unfold State.recordSent
  dsimp only
  split <;> rfl

/-- R100 to R102: a DATA frame begun. -/
theorem JournalLaw.dataFrame {t : State} {f : LinkFrame} (h : JournalLaw s) (hf : s.dataFrame = some (f, t)) : JournalLaw t := by
  unfold State.dataFrame at hf
  split at hf
  · simp at hf
  · next hactive =>
    obtain ⟨hrole, hup⟩ := (State.senderActive_iff s).mp (by simpa using hactive)
    split at hf
    · next r rs hr =>
      obtain ⟨-, rfl⟩ : _ ∧ _ = t := by simpa using hf
      exact h.of_delivery (resendFirst_delivery hr)
    · split at hf
      · simp at hf
      · next hroom =>
        obtain ⟨p, hp, ht⟩ := Option.map_eq_some_iff.mp hf
        obtain ⟨-, rfl⟩ : _ ∧ s.recordSent p.2 = t := by simpa using ht
        obtain ⟨⟨n, hshape, -⟩, hmax, -⟩ := (journalLaw_iff s).mp h
        rw [hshape.outstanding] at hroom
        have hframe := s.recordSent_frame p.2
        refine (journalLaw_iff _).mpr ⟨⟨n + 1, ?_, ?_⟩, ?_, ?_⟩
        · rw [State.recordSent_records, State.recordSent_next]
          exact hshape.send hp
        · rw [hframe]
          exact Nat.lt_of_not_le hroom
        · rw [hframe]
          exact hmax
        · rw [hframe]
          exact fun hidle => (hidle.elim (· hrole) (· hup)).elim

theorem JournalLaw.kick (h : JournalLaw s) : JournalLaw s.kick := by
  obtain ⟨_, _, hk⟩ | ⟨f, t, hf, hk⟩ := s.kick_cases
  · rw [hk]
    exact h
  · rw [hk]
    have ht := h.dataFrame (t := t) hf
    exact ht

theorem JournalLaw.finish (h : JournalLaw s) : JournalLaw s.finish := JournalLaw.kick (s := s.derivePair) h.of_delivery

theorem JournalLaw.markDirty (h : JournalLaw s) (bs : List Block) : JournalLaw (s.markDirty bs) := h.of_delivery

theorem journalLaw_sessionEnd (hwindow : s.params.windowSize ≤ 32) : JournalLaw s.sessionEnd :=
  journalLaw_of_empty s.sessionEnd_records (by simpa using hwindow)

theorem JournalLaw.departUp (h : JournalLaw s) (dest : LinkState) : JournalLaw (s.departUp dest) := by
  simp only [State.departUp]
  split
  · exact journalLaw_sessionEnd h.window
  · next hrole => exact h.of_idle (.inl hrole)

theorem JournalLaw.departUp_records (h : JournalLaw s) (dest : LinkState) : (s.departUp dest).journal.records = [] := by
  simp only [State.departUp]
  split
  · exact State.sessionEnd_records _
  · next hrole => exact h.idle (.inl hrole)

theorem JournalLaw.loseLink (h : JournalLaw s) : JournalLaw s.loseLink :=
  journalLaw_of_empty (h.departUp_records .training) (by simpa using h.window)

theorem JournalLaw.localHalt (h : JournalLaw s) (r : HaltReason) : JournalLaw (s.localHalt r) := by
  unfold State.localHalt
  split
  · exact journalLaw_of_empty (JournalLaw.departUp_records (s := s.dueHalt r) h .halted) (by simpa using h.window)
  · next hl => exact h.of_idle (.inr (by simp [hl]))
  · exact h

theorem JournalLaw.removeHead {n : Nat} (h : JournalLaw s) (hn : n ≤ s.journal.outstanding) : JournalLaw (removeHead n s) := by
  obtain ⟨⟨k, hshape, hk⟩, hmax, hidle⟩ := (journalLaw_iff s).mp h
  rw [hshape.outstanding] at hn
  have hrecords := removeHead_records n s
  have hframe := removeHead_frame n s
  refine (journalLaw_iff _).mpr ⟨⟨k - n, ?_, ?_⟩, ?_, ?_⟩
  · rw [hrecords, hframe]
    exact hshape.drop hn
  · rw [hframe]
    exact Nat.le_trans (Nat.sub_le _ _) hk
  · rw [hframe]
    exact hmax
  · intro hinactive
    rw [hframe] at hinactive
    rw [hrecords, hidle hinactive, List.drop_nil]

theorem JournalLaw.remove {n : Nat} (h : JournalLaw s) (hn : n ≤ s.journal.outstanding) : JournalLaw (s.remove n) := by
  cases n with
  | zero => exact h
  | succ n =>
    have hannounced : JournalLaw (Machine.removeHead (n + 1) s).announceRise := JournalLaw.of_delivery (h.removeHead hn)
    exact hannounced.waterTest

theorem JournalLaw.rewind (h : JournalLaw s) : JournalLaw s.rewind := h.of_delivery (map_delivery_map Record.rewind_delivery _)

theorem Journal.nakRemoves_le (j : Journal) (d : Nat) : j.nakRemoves d ≤ d :=
  Nat.le_trans (List.takeWhile_sublist _).length_le (List.length_take_le _ _)

theorem State.progress_next (s : State) : s.progress.sender.next = s.sender.next := by
  unfold State.progress
  dsimp only
  split <;> rfl

theorem JournalLaw.progress (h : JournalLaw s) : JournalLaw s.progress := h.of_delivery (by simp) s.progress_next

theorem JournalLaw.acceptNak {d : Nat} (h : JournalLaw s) (hd : d ≤ s.journal.outstanding) : JournalLaw (s.acceptNak d) := by
  have hremoved := (h.remove (Nat.le_trans (s.journal.nakRemoves_le d) hd)).rewind
  unfold State.acceptNak
  dsimp only
  split
  · split
    · exact hremoved
    · exact hremoved
  · exact hremoved.progress

theorem JournalLaw.fillPlaceholder (h : JournalLaw s) (data : LineBytes) : JournalLaw (s.fillPlaceholder data) :=
  h.of_delivery (map_delivery_map (Record.fill_delivery data) _)

/-- R39: a placeholder was not sent. -/
theorem JournalLaw.withdrawPlaceholder (h : JournalLaw s) : JournalLaw s.withdrawPlaceholder := by
  obtain ⟨⟨n, hshape, hn⟩, hmax, hidle⟩ := (journalLaw_iff s).mp h
  have hkept : JournalLaw { s with journal := { s.journal with records := s.journal.records.filter fun r => r.state != .filling } } := by
    refine (journalLaw_iff _).mpr ⟨⟨n, hshape.filter fun r hr => ?_, hn⟩, hmax, fun hinactive => ?_⟩
    · cases hs : r.state <;> simp_all [Record.isOutstanding]
    · simp [hidle hinactive]
  exact hkept.of_delivery (by simp [State.withdrawPlaceholder])

/-- Table 7.2: MIRRORED needs the link UP. -/
theorem State.up_of_mirrored (h : s.derivedPair = .mirrored) : s.link.state = .up := by
  unfold State.derivedPair at h
  split at h
  · simp at h
  · split at h
    · next hrow => exact hrow.1
    · split at h <;> simp at h

theorem JournalLaw.endPromotion (h : JournalLaw s) : JournalLaw s.endPromotion := by
  unfold State.endPromotion
  split
  · next hend => exact h.of_idle (.inl (by simp [hend.1]))
  · exact h

theorem JournalLaw.afterParam (h : JournalLaw s) (p : Param) (v : BitVec 32) : JournalLaw (s.afterParam p v) := by
  unfold State.afterParam
  split
  · exact h.waterTest
  · exact h.waterTest
  · split
    · exact h.of_delivery
    · exact h
  · exact h

/-- WINDOW_SIZE is written in its range, and while the journal is empty (R164). -/
theorem JournalLaw.putParam (h : JournalLaw s) {p : Param} {v : BitVec 32} (hrange : p.inRange v = true)
    (hwritable : s.paramWritable p = true) : JournalLaw { s with params := s.params.put p v } := by
  by_cases hp : p = .windowSize
  · subst hp
    have hup : s.link.state ≠ .up := by simpa [State.paramWritable] using hwritable
    simp only [Param.inRange, decide_eq_true_eq] at hrange
    exact journalLaw_of_empty (h.idle (.inr hup)) hrange.2
  · refine h.of_delivery rfl rfl ?_ rfl rfl
    cases p with
    | windowSize => exact absurd rfl hp
    | _ => rfl

end

theorem Effect.keeps_journalLaw {s t : State} (heff : Effect s t) (h : JournalLaw s) (hsweep : SweepLaw s) (hpair : PairLaw s) :
    JournalLaw t := by
  cases heff with
  | unchanged | ownFields | counters | passes | misaligned | fenced | admitted | stalled => exact h
  | claimed | marked | initDrops | initReleases => exact h.of_delivery
  | initAbandons => exact h.of_delivery (by simpa using s.unbind_delivery)
  | initEndsHold | holdExpired => exact h.of_delivery (map_delivery_map Record.clearedWaiter_delivery _)
  | forwarded | dirtied => exact h.of_delivery
  | merged t bound =>
    exact h.of_delivery (by simpa [State.changeTail] using map_changeLast (Record.merge_delivery t bound) s.journal.records)
  | appended t bound b htxn hgrant hrole hup =>
    have hcounted : JournalLaw s.countHostGrant := h.of_delivery
    have hjoined : JournalLaw { s.countHostGrant.appendRecord (lineRecord (s.txnLine t) t bound) with
        host := { s.host with claim := false, bound := bound } } := hcounted.appendRecord rfl (by simpa using hrole) (by simpa using hup)
    exact hjoined.waterTest.kick
  | grantFenced | hostHeld | hostDone | hostDiscarded => exact h.of_delivery
  | hostTimedOut => exact h.of_delivery (by simpa using s.unbind_delivery)
  | abandonedTimedOut | spaceExpired => exact h.of_delivery
  | selected => exact JournalLaw.finish h.of_delivery
  | sweepGranted c hc hgrant =>
    obtain ⟨hstate, -, -⟩ := hsweep.of_request (State.request_of_sweepGrantable hgrant)
    obtain ⟨hrole, hup⟩ := hsweep.active (by simp [Sweep.AtRest, hstate])
    have hjoined : JournalLaw (s.appendRecord (placeholder c.lineIndex)) := h.appendRecord rfl hrole hup
    rw [State.beginSweepRead_eq]
    exact JournalLaw.waterTest hjoined
  | readStopped c data =>
    have hfilled : JournalLaw (s.readFilled data) := h.fillPlaceholder data
    exact JournalLaw.finish hfilled.of_delivery
  | readAdvanced c data =>
    have hfilled : JournalLaw (s.readFilled data) := h.fillPlaceholder data
    exact JournalLaw.finish hfilled.of_delivery
  | readTimedOut =>
    have hgone : JournalLaw s.endSweepRead.withdrawPlaceholder := JournalLaw.withdrawPlaceholder (s := s.endSweepRead) h
    have hannounced : JournalLaw
        (s.endSweepRead.withdrawPlaceholder.remarkCopy.afterReadTimeout s.sweep.stopPending).announceRise := hgone.of_delivery
    exact hannounced.waterTest.finish
  | orphanEnded | heard | nakCounted => exact h
  | repeated => exact JournalLaw.kick h.of_delivery
  | kept => exact JournalLaw.kick h
  | silent => exact h.loseLink.finish
  | resent => exact JournalLaw.kick (s := s.rewoundForRetry.startRetx) h.rewind
  | exhausted => exact JournalLaw.finish (JournalLaw.localHalt (s := s.rewoundForRetry) h.rewind _)
  | frameEnded => exact JournalLaw.kick h
  | helloTested hello htrain => exact JournalLaw.finish (h.of_idle (.inr (by simp [htrain])))
  | helloInUp hello hup =>
    have hlost := JournalLaw.loseLink (s := s.restartSilence) h
    have htrain : s.restartSilence.loseLink.link.state = .training := by rw [State.loseLink_link]; rfl
    exact JournalLaw.finish (hlost.of_idle (.inr (by simp [htrain])))
  | startTested session mode hrole => exact JournalLaw.finish (h.of_idle (.inl (by simp [hrole])))
  | startRepeated => exact JournalLaw.kick h
  | startInUp session mode hrole =>
    have hlost := JournalLaw.loseLink (s := s.restartSilence) h
    exact JournalLaw.finish (hlost.of_idle (.inl (by simp [hrole])))
  | ready hrole htrain => exact JournalLaw.finish (h.of_idle (.inr (by simp [htrain])))
  | dataTaken r => exact JournalLaw.kick h.of_delivery
  | acked n hrole hup hn => exact (JournalLaw.remove (s := s.restartSilence) h hn).progress.kick
  | naked d hrole hup hd => exact (JournalLaw.acceptNak (s := s.restartSilence.bump .naksReceived) h hd).kick
  | halted r => exact JournalLaw.finish (JournalLaw.departUp (s := s.restartSilence) h .halted)
  | applyGranted => exact h
  | applyContinued => exact JournalLaw.finish h
  | applied =>
    have happlied : JournalLaw s.freePort.applyHead := h.of_delivery
    exact happlied.endPromotion.finish
  | applyFaults => exact JournalLaw.finish (JournalLaw.localHalt (s := s.applyFaulted) h _)
  | promotionFaults =>
    have hdrained : JournalLaw (s.applyFaulted.localHalt .applyFault).discardQueue := JournalLaw.localHalt (s := s.applyFaulted) h _
    exact hdrained.endPromotion.finish
  | regionWritten => exact h
  | paramWritten p v hrange hwritable => exact (h.putParam hrange hwritable).afterParam p v
  | becamePrimary hrole => exact JournalLaw.finish (h.of_idle (.inl (by simp [hrole])))
  | becameReplica hrole => exact JournalLaw.finish (h.of_idle (.inl (by simp [hrole])))
  | leftPrimary => exact JournalLaw.finish (journalLaw_of_empty (by simp [Journal.powerOn]) (by simpa using h.window))
  | repairStarted | repairStopped => exact h.of_delivery
  | markerPlaced tag hrole hmirrored =>
    have hup : s.link.state = .up := by
      obtain ⟨hderived, -⟩ := hpair
      exact State.up_of_mirrored (hderived.symm.trans hmirrored)
    have hplaced : JournalLaw { s.appendRecord (markerRecord tag) with
        pair := { s.pair with outstanding := s.pair.outstanding ++ [tag] } } := h.appendRecord rfl hrole hup
    have hfallen : JournalLaw (State.sweepFall { s.appendRecord (markerRecord tag) with
        pair := { s.pair with outstanding := s.pair.outstanding ++ [tag] } }) := hplaced.of_delivery
    exact hfallen.waterTest.kick
  | markersRead => exact h
  | relinked hhalt => exact JournalLaw.finish (h.of_idle (.inr (by simp [hhalt])))
  | promoted hrole =>
    rw [State.beginPromotion_eq, State.promotionBegun_frame]
    exact JournalLaw.finish (h.of_idle (.inl (by simp [hrole])))
  | faultCleared | alertsRead | alertsAcked | alertsEnabled => exact h
  | softReset => exact journalLaw_of_empty rfl h.window
  | powerOnReset => exact journalLaw_of_empty rfl (by simp [State.powerOnReset, State.reset, Params.powerOn])

/-- Settles O12: every effect keeps the law beside the sweep's and the pair's, and so does every step. -/
theorem stepKeepsJournalLaw : Obligations.StepKeepsJournalLaw := fun _ _ hjournal hsweep hpair =>
  step_keeps (Q := fun s => JournalLaw s ∧ SweepLaw s ∧ PairLaw s) (fun _ _ _ _ _ h => h) (fun _ _ _ _ _ h => h)
    (fun _ _ heff ⟨hj, hs, hp⟩ => heff.keeps_journalLaw hj hs hp) ⟨hjournal, hsweep, hpair⟩

end Sys2Proof.Machine

/-! PROOF. The binding law (R30, R15): the one record that carries a bound write is told apart by its sync waiter, and is there exactly while
the host port waits on it. -/

namespace Sys2Proof.Machine

open Sys2Proof

set_option Elab.async false

/-! ## What of the records the law looks at -/

/-- A record's sync waiter, whether it waits for its data, and whether it is a LINE record. -/
def Record.binding (r : Record) : Bool × Bool × Bool := (r.waiter, r.state == .filling, r.isLine)

theorem Record.binding_of_contents {r x : Record} (h : r.contents = x.contents) : r.binding = x.binding := by
  simp only [Record.contents, Prod.mk.injEq] at h
  obtain ⟨hbody, hwaiter, hfilling⟩ := h
  rw [Record.binding, Record.binding, Record.isLine, Record.isLine, hbody, hwaiter, hfilling]

/-- The waiters of the law: none on a record that waits for its data, and none but on LINE records. -/
def WaitersSound (rs : List Record) : Prop :=
  (∀ r ∈ rs, r.state = .filling → r.waiter = false) ∧ ∀ r ∈ rs, r.waiter = true → r.isLine = true

theorem waitersSound_iff (rs : List Record) :
    WaitersSound rs ↔ ∀ v ∈ rs.map Record.binding, (v.2.1 = true → v.1 = false) ∧ (v.1 = true → v.2.2 = true) := by
  simp only [WaitersSound, List.forall_mem_map, Record.binding, beq_iff_eq]
  exact ⟨fun ⟨hf, hl⟩ r hr => ⟨hf r hr, hl r hr⟩, fun h => ⟨fun r hr => (h r hr).1, fun r hr => (h r hr).2⟩⟩

theorem WaitersSound.of_binding {rs xs : List Record} (h : WaitersSound rs) (hsame : xs.map Record.binding = rs.map Record.binding) :
    WaitersSound xs := by
  rw [waitersSound_iff, hsame, ← waitersSound_iff]
  exact h

theorem WaitersSound.of_mem {rs xs : List Record} (h : WaitersSound rs) (hsub : ∀ r ∈ xs, r ∈ rs) : WaitersSound xs :=
  ⟨fun r hr => h.1 r (hsub r hr), fun r hr => h.2 r (hsub r hr)⟩

theorem waitersSound_of_none {rs : List Record} (h : ∀ r ∈ rs, r.waiter = false) : WaitersSound rs :=
  ⟨fun r hr _ => h r hr, fun r hr hw => by simp [h r hr] at hw⟩

theorem WaitersSound.append {rs : List Record} {r : Record} (h : WaitersSound rs) (hf : r.state ≠ .filling ∨ r.waiter = false)
    (hl : r.waiter = true → r.isLine = true) : WaitersSound (rs ++ [r]) := by
  refine ⟨fun x hx hstate => ?_, fun x hx hw => ?_⟩
  · rcases List.mem_append.mp hx with hx | hx
    · exact h.1 x hx hstate
    · obtain rfl : x = r := by simpa using hx
      exact hf.resolve_left fun hne => hne hstate
  · rcases List.mem_append.mp hx with hx | hx
    · exact h.2 x hx hw
    · obtain rfl : x = r := by simpa using hx
      exact hl hw

/-- How many records carry a bound write. -/
def waiters (rs : List Record) : Nat := rs.countP fun r => r.waiter

theorem waiters_of_binding {rs xs : List Record} (h : xs.map Record.binding = rs.map Record.binding) : waiters xs = waiters rs := by
  have hview (l : List Record) : waiters l = (l.map Record.binding).countP Prod.fst := by
    rw [List.countP_map]
    rfl
  rw [hview, hview, h]

theorem waiters_eq_zero_iff (rs : List Record) : waiters rs = 0 ↔ ∀ r ∈ rs, r.waiter = false := by
  simp [waiters, List.countP_eq_zero]

theorem Record.rewind_binding (r : Record) : r.rewind.binding = r.binding := by
  unfold Record.rewind
  split
  · next h =>
    have hstate : (RecState.resend == RecState.filling) = (RecState.sent == RecState.filling) := rfl
    simp [Record.binding, Record.isLine, h, hstate]
  · rfl

theorem bindingLaw_iff (s : State) :
    BindingLaw s ↔ waiters s.journal.records = (if s.host.bound then 1 else 0) ∧
      (s.host.bound = true → s.host.state = .inMemory ∨ s.host.state = .syncHold) ∧ (s.host.state = .syncHold → s.host.bound = true) ∧
      WaitersSound s.journal.records := Iff.rfl

section
variable {s : State}

/-! ## What the law says -/

theorem BindingLaw.sound (h : BindingLaw s) : WaitersSound s.journal.records := by
  obtain ⟨-, -, -, hsound⟩ := (bindingLaw_iff s).mp h
  exact hsound

theorem BindingLaw.unbound (h : BindingLaw s) (hmem : s.host.state ≠ .inMemory) (hhold : s.host.state ≠ .syncHold) :
    s.host.bound = false := by
  obtain ⟨-, hbound, -⟩ := (bindingLaw_iff s).mp h
  exact Bool.eq_false_iff.mpr fun hb => (hbound hb).elim hmem hhold

theorem BindingLaw.no_waiter (h : BindingLaw s) (hb : s.host.bound = false) : ∀ r ∈ s.journal.records, r.waiter = false := by
  obtain ⟨hcount, -⟩ := (bindingLaw_iff s).mp h
  rw [hb] at hcount
  exact (waiters_eq_zero_iff _).mp hcount

theorem BindingLaw.bound_of_hold (h : BindingLaw s) (hstate : s.host.state = .syncHold) : s.host.bound = true := by
  obtain ⟨-, -, hhold, -⟩ := (bindingLaw_iff s).mp h
  exact hhold hstate

/-! ## What leaves the law -/

theorem BindingLaw.of_binding {t : State} (h : BindingLaw s)
    (hrecords : t.journal.records.map Record.binding = s.journal.records.map Record.binding := by simp)
    (hhost : t.host = s.host := by simp) : BindingLaw t := by
  obtain ⟨hcount, hbound, hhold, hsound⟩ := (bindingLaw_iff s).mp h
  refine (bindingLaw_iff t).mpr ?_
  rw [hhost, waiters_of_binding hrecords]
  exact ⟨hcount, hbound, hhold, hsound.of_binding hrecords⟩

/-- A port with no bound write, beside records of which none carries one. -/
theorem bindingLaw_of_unbound (hrecords : ∀ r ∈ s.journal.records, r.waiter = false) (hbound : s.host.bound = false)
    (hhold : s.host.state ≠ .syncHold) : BindingLaw s :=
  (bindingLaw_iff s).mpr ⟨by rw [hbound]; exact (waiters_eq_zero_iff _).mpr hrecords, fun hb => by simp [hbound] at hb,
    fun hs => absurd hs hhold, waitersSound_of_none hrecords⟩

/-- The port without a bound write changes, and the records do not. -/
theorem BindingLaw.of_unbound {t : State} (h : BindingLaw s) (hb : s.host.bound = false) (hbound : t.host.bound = false)
    (hhold : t.host.state ≠ .syncHold) (hrecords : t.journal.records = s.journal.records := by simp) : BindingLaw t :=
  bindingLaw_of_unbound (by rw [hrecords]; exact h.no_waiter hb) hbound hhold

theorem bindingLaw_of_cleared (hbound : s.host.bound = false) (hhold : s.host.state ≠ .syncHold) {u : State}
    (hrecords : s.journal.records = u.clearWaiter.journal.records) : BindingLaw s := by
  refine bindingLaw_of_unbound ?_ hbound hhold
  rw [hrecords]
  intro r hr
  obtain ⟨x, -, rfl⟩ := List.mem_map.mp hr
  rfl

/-- R17, R22: after the carrying record is told, no record has its waiter set. -/
theorem BindingLaw.unbind_no_waiter (h : BindingLaw s) : ∀ r ∈ s.unbind.journal.records, r.waiter = false := by
  unfold State.unbind
  split
  · intro r hr
    obtain ⟨x, -, rfl⟩ := List.mem_map.mp hr
    rfl
  · next hb => exact h.no_waiter (Bool.eq_false_iff.mpr hb)

/-! ## The operations -/

theorem BindingLaw.kick (h : BindingLaw s) : BindingLaw s.kick :=
  h.of_binding (map_eq_of_contents (fun _ _ => Record.binding_of_contents) s.kick_contents)

theorem BindingLaw.finish (h : BindingLaw s) : BindingLaw s.finish := BindingLaw.kick (s := s.derivePair) h.of_binding

theorem BindingLaw.waterTest (h : BindingLaw s) : BindingLaw s.waterTest := h.of_binding (by rw [State.waterTest_records])

theorem BindingLaw.toPortWait (h : BindingLaw s) (hstate : s.host.state = .spaceWait) (claim : Bool) : BindingLaw (s.toPortWait claim) := by
  have hb := h.unbound (by simp [hstate]) (by simp [hstate])
  exact h.of_unbound hb hb nofun

theorem BindingLaw.retestHost (h : BindingLaw s) : BindingLaw s.retestHost := by
  unfold State.retestHost
  split
  · next hstate _ _ =>
    split
    · exact h.toPortWait hstate false
    · exact (h.toPortWait hstate true).of_binding
    · exact h.toPortWait hstate false
    · exact h
    · exact h
  · exact h

theorem BindingLaw.announceRise (h : BindingLaw s) : BindingLaw s.announceRise :=
  h.retestHost.of_binding (t := s.retestHost.sweepRise)

/-- The carrying record gone, no write is bound (R15, R16). -/
theorem bindingLaw_releaseHold (hrecords : ∀ r ∈ s.journal.records, r.waiter = false)
    (hbound : s.host.bound = true → s.host.state = .inMemory ∨ s.host.state = .syncHold) : BindingLaw s.releaseHold := by
  unfold State.releaseHold
  split
  · exact bindingLaw_of_unbound hrecords rfl nofun
  · next hmem => exact bindingLaw_of_unbound hrecords rfl (by simp [hmem])
  · next hhold hmem =>
    exact bindingLaw_of_unbound hrecords (Bool.eq_false_iff.mpr fun hb => (hbound hb).elim hmem hhold) hhold

theorem BindingLaw.sessionEnd (h : BindingLaw s) : BindingLaw s.sessionEnd := by
  obtain ⟨-, hbound, -, -⟩ := (bindingLaw_iff s).mp h
  have hcleared : BindingLaw s.sessionCleared := bindingLaw_releaseHold nofun (by simpa using hbound)
  rw [State.sessionEnd_eq]
  have hdown : BindingLaw s.sessionCleared.sweepLinkDown := hcleared.of_binding
  have hreset : BindingLaw s.sessionCleared.sweepLinkDown.retestHost.resetSender := hdown.retestHost
  exact hreset.waterTest

theorem BindingLaw.departUp (h : BindingLaw s) (dest : LinkState) : BindingLaw (s.departUp dest) := by
  simp only [State.departUp]
  split
  · exact BindingLaw.sessionEnd (s := s.setLink dest) h
  · exact h

theorem BindingLaw.loseLink (h : BindingLaw s) : BindingLaw s.loseLink := h.departUp .training

theorem BindingLaw.localHalt (h : BindingLaw s) (r : HaltReason) : BindingLaw (s.localHalt r) := by
  unfold State.localHalt
  split
  · exact BindingLaw.departUp (s := s.dueHalt r) h _
  · exact h
  · exact h

/-- R43: the record removed takes its binding with it. -/
theorem BindingLaw.handOff_head {r : Record} {rest : List Record} (h : BindingLaw s) (hrs : s.journal.records = r :: rest) :
    BindingLaw (State.handOff r { s with journal := { s.journal with records := rest } }) := by
  obtain ⟨hcount, hbound, hhold, hsound⟩ := (bindingLaw_iff s).mp h
  rw [hrs] at hcount hsound
  have hrest : WaitersSound rest := hsound.of_mem fun x hx => List.mem_cons_of_mem _ hx
  have hkept (hw : r.waiter = false) : BindingLaw { s with journal := { s.journal with records := rest } } := by
    refine (bindingLaw_iff _).mpr ⟨?_, hbound, hhold, hrest⟩
    rw [← hcount]
    simp [waiters, hw]
  unfold State.handOff
  split
  · next tag hbody =>
    have hw : r.waiter = false := Bool.eq_false_iff.mpr fun hw => by
      have hline := hsound.2 r (List.mem_cons_self ..) hw
      simp [Record.isLine, hbody] at hline
    rw [State.markerReached_frame]
    exact hkept hw
  · split
    · next hw =>
      refine bindingLaw_releaseHold ((waiters_eq_zero_iff _).mp ?_) hbound
      have hmore : waiters (r :: rest) = waiters rest + 1 := List.countP_cons_of_pos hw
      rw [hmore] at hcount
      show waiters rest = 0
      split at hcount <;> omega
    · next hw => exact hkept (Bool.eq_false_iff.mpr hw)

theorem BindingLaw.removeHead (h : BindingLaw s) (n : Nat) : BindingLaw (removeHead n s) := by
  induction n generalizing s with
  | zero => exact h
  | succ n ih =>
    unfold Machine.removeHead
    split
    · exact h
    · next r rest hrs => exact ih (h.handOff_head hrs)

theorem BindingLaw.remove (h : BindingLaw s) (n : Nat) : BindingLaw (s.remove n) := by
  cases n with
  | zero => exact h
  | succ n => exact (h.removeHead (n + 1)).announceRise.waterTest

theorem BindingLaw.rewind (h : BindingLaw s) : BindingLaw s.rewind :=
  h.of_binding (by simp [State.rewind, Record.rewind_binding])

theorem BindingLaw.acceptNak (h : BindingLaw s) (d : Nat) : BindingLaw (s.acceptNak d) := by
  have hremoved := (h.remove (s.journal.nakRemoves d)).rewind
  unfold State.acceptNak
  dsimp only
  split
  · split
    · exact hremoved
    · exact hremoved
  · exact hremoved.of_binding

/-- A record that carries no bound write joins the journal. -/
theorem BindingLaw.appendPlain {r : Record} (h : BindingLaw s) (hw : r.waiter = false) : BindingLaw (s.appendRecord r) := by
  obtain ⟨hcount, hbound, hhold, hsound⟩ := (bindingLaw_iff s).mp h
  refine (bindingLaw_iff _).mpr ⟨?_, hbound, hhold, hsound.append (.inr hw) (fun ht => by simp [hw] at ht)⟩
  refine Eq.trans ?_ hcount
  simp [State.appendRecord, waiters, hw]

/-- R14, R34: the record appended carries the write, when it is bound. -/
theorem bindingLaw_append {r : Record} {host : HostPort} (hrecords : ∀ x ∈ s.journal.records, x.waiter = false)
    (hw : r.waiter = host.bound) (hstate : r.state ≠ .filling) (hline : r.isLine = true) (hmem : host.state = .inMemory) :
    BindingLaw { s.appendRecord r with host := host } := by
  refine (bindingLaw_iff _).mpr ⟨?_, fun _ => .inl hmem, fun hs => by simp [hmem] at hs,
    (waitersSound_of_none hrecords).append (.inl hstate) fun _ => hline⟩
  show waiters (s.journal.records ++ [r]) = _
  rw [waiters, List.countP_append, ← waiters, (waiters_eq_zero_iff _).mpr hrecords, Nat.zero_add]
  simp [List.countP_singleton, hw]

theorem changeLast_append (f : Record → Record) (rs : List Record) (r : Record) : changeLast f (rs ++ [r]) = rs ++ [f r] := by
  induction rs with
  | nil => rfl
  | cons x rest ih =>
    cases rest with
    | nil => rfl
    | cons y more => simpa [changeLast] using ih

/-- A tail that takes a merge is a QUEUED LINE record at the journal's end (R35). -/
theorem Journal.split_of_tailMerges {j : Journal} {l : LineIndex} (h : j.tailMerges l = true) :
    ∃ rs r, j.records = rs ++ [r] ∧ r.state = .queued ∧ ∃ mask data, r.body = .line l mask data := by
  obtain ⟨r, hlast, hmerge⟩ := (Option.any_eq_true _ _).mp h
  obtain ⟨rs, hrs⟩ := List.getLast?_eq_some_iff.mp hlast
  unfold Record.takesMerge at hmerge
  split at hmerge
  · next i mask data hbody =>
    simp only [Bool.and_eq_true, beq_iff_eq] at hmerge
    obtain ⟨hstate, rfl⟩ := hmerge
    exact ⟨rs, r, hrs, hstate, mask, data, hbody⟩
  · simp at hmerge

/-- R14, R35: the tail carries the write merged into it, when it is bound. -/
theorem bindingLaw_merge {t : BusTxn} {l : LineIndex} {host : HostPort} (hrecords : ∀ x ∈ s.journal.records, x.waiter = false)
    (htail : s.journal.tailMerges l = true) (hmem : host.state = .inMemory) :
    BindingLaw { s.changeTail (Record.merge t host.bound) with host := host } := by
  obtain ⟨rs, r, hrs, hstate, mask, data, hbody⟩ := Journal.split_of_tailMerges htail
  rw [hrs] at hrecords
  have hw : r.waiter = false := hrecords r (by simp)
  have hmerged : r.merge t host.bound = { r with
      body := .line l (mask ||| writeMask t) (overlay (writeMask t) (writeData t) data), waiter := host.bound } := by
    simp [Record.merge, hbody, hw]
  have hbinding := bindingLaw_append (s := { s with journal := { s.journal with records := rs } }) (r := r.merge t host.bound)
    (host := host) (fun x hx => hrecords x (by simp [hx])) (by rw [hmerged]) (by rw [hmerged]; simp [hstate]) (by rw [hmerged]; rfl) hmem
  have hchanged : changeLast (Record.merge t host.bound) s.journal.records = rs ++ [r.merge t host.bound] := by
    rw [hrs, changeLast_append]
  rw [State.changeTail, hchanged]
  exact hbinding

theorem Record.fill_waiter (data : LineBytes) (r : Record) : (r.fill data).waiter = r.waiter := by
  unfold Record.fill
  split <;> rfl

theorem Record.fill_isLine (data : LineBytes) (r : Record) : (r.fill data).isLine = r.isLine := by
  unfold Record.fill
  split
  · next h => simp [Record.isLine, h]
  · rfl

/-- R38: a placeholder carries no bound write before or after its data come. -/
theorem BindingLaw.fillPlaceholder (h : BindingLaw s) (data : LineBytes) : BindingLaw (s.fillPlaceholder data) := by
  obtain ⟨hcount, hbound, hhold, hfilling, hline⟩ := (bindingLaw_iff s).mp h
  refine (bindingLaw_iff _).mpr ⟨?_, hbound, hhold, fun x hx hstate => ?_, fun x hx hw => ?_⟩
  · refine Eq.trans ?_ hcount
    simp [State.fillPlaceholder, waiters, List.countP_map, Function.comp_def, Record.fill_waiter]
  · obtain ⟨r, hr, rfl⟩ := List.mem_map.mp hx
    rw [Record.fill_waiter]
    refine hfilling r hr ?_
    unfold Record.fill at hstate
    split at hstate
    · simp at hstate
    · exact hstate
  · obtain ⟨r, hr, rfl⟩ := List.mem_map.mp hx
    rw [Record.fill_isLine]
    exact hline r hr (by rwa [Record.fill_waiter] at hw)

/-- R39: the placeholder withdrawn carries no bound write. -/
theorem BindingLaw.withdrawPlaceholder (h : BindingLaw s) : BindingLaw s.withdrawPlaceholder := by
  obtain ⟨hcount, hbound, hhold, hsound⟩ := (bindingLaw_iff s).mp h
  have hkept : BindingLaw { s with journal := { s.journal with records := s.journal.records.filter fun r => r.state != .filling } } := by
    refine (bindingLaw_iff _).mpr ⟨?_, hbound, hhold, hsound.of_mem fun x hx => (List.mem_filter.mp hx).1⟩
    rw [← hcount]
    show List.countP _ _ = List.countP _ _
    rw [List.countP_filter]
    refine List.countP_congr fun r hr => ?_
    by_cases hf : r.state = .filling
    · simp [hf, hsound.1 r hr hf]
    · simp [hf]
  exact hkept.of_binding (by simp [State.withdrawPlaceholder])

/-- A grant changes the port of a write that was not bound, and may bind it. -/
theorem State.forward_host_of_grant {u : State} {bound : Bool} (hhost : u.host = { s.host with claim := false, bound := bound })
    (t : BusTxn) : (u.forward t).host = { s.host with state := .inMemory, claim := false, bound := bound } := by
  simp [State.forward, hhost]

theorem BindingLaw.forward (h : BindingLaw s) (hgrant : s.hostGrantable = true) {u : State}
    (hhost : u.host = { s.host with claim := false }) (hrecords : u.journal.records = s.journal.records) (t : BusTxn) :
    BindingLaw (u.forward t) := by
  obtain ⟨hstate, -, -⟩ := State.of_hostGrantable hgrant
  have hb := h.unbound (by simp [hstate]) (by simp [hstate])
  refine h.of_unbound hb ?_ ?_ hrecords
  · simpa [State.forward, hhost] using hb
  · simp [State.forward]

/-- A part with no record in the journal, and a port that holds no bound write. -/
theorem bindingLaw_of_empty (hrecords : s.journal.records = []) (hbound : s.host.bound = false) (hhold : s.host.state ≠ .syncHold) :
    BindingLaw s := bindingLaw_of_unbound (by rw [hrecords]; exact nofun) hbound hhold

/-- R24: the port takes no bound write out of the role Primary. -/
theorem BindingLaw.leavePrimary (h : BindingLaw s) (hjournal : JournalLaw s) : BindingLaw s.leavePrimary := by
  have hlink : BindingLaw s.linkLeavePrimary ∧ s.linkLeavePrimary.journal.records = [] := by
    unfold State.linkLeavePrimary
    dsimp only
    split
    · exact ⟨BindingLaw.departUp (s := s.dueHalt _) h _, JournalLaw.departUp_records (s := s.dueHalt _) hjournal _⟩
    · next hup => exact ⟨h, hjournal.idle (.inr (by simpa [State.linkUp] using hup))⟩
  obtain ⟨hbinding, hempty⟩ := hlink
  have hnone : s.linkLeavePrimary.host.bound = false := by
    obtain ⟨hcount, -⟩ := (bindingLaw_iff _).mp hbinding
    rw [hempty] at hcount
    cases hb : s.linkLeavePrimary.host.bound with
    | false => rfl
    | true => simp [hb, waiters] at hcount
  have hhold : s.linkLeavePrimary.host.state ≠ .syncHold := fun hs => by simp [hbinding.bound_of_hold hs] at hnone
  refine BindingLaw.finish (bindingLaw_of_empty ?_ ?_ ?_)
  · simp [Journal.powerOn]
  · cases hs : s.linkLeavePrimary.host.state <;> simp [HostPort.leavePrimary, hs, hnone]
  · cases hs : s.linkLeavePrimary.host.state <;> simp_all [HostPort.leavePrimary]

theorem BindingLaw.softReset (h : BindingLaw s) : BindingLaw s.softReset := by
  have hport : s.host.softReset.bound = false ∧ s.host.softReset.state ≠ .syncHold := by
    cases hs : s.host.state with
    | syncHold => simp [HostPort.softReset, hs, HostPort.idle]
    | inMemory => simp [HostPort.softReset, hs]
    | _ => simp [HostPort.softReset, hs, h.unbound (by simp [hs]) (by simp [hs])]
  exact bindingLaw_of_empty rfl hport.1 hport.2

theorem BindingLaw.afterParam (h : BindingLaw s) (p : Param) (v : BitVec 32) : BindingLaw (s.afterParam p v) := by
  unfold State.afterParam
  split
  · exact h.waterTest
  · exact h.waterTest
  · split
    · exact h.of_binding
    · exact h
  · exact h

theorem BindingLaw.stopSweep (h : BindingLaw s) : BindingLaw s.stopSweep := by
  unfold State.stopSweep
  split
  · exact h
  · exact h
  · exact h
  · exact BindingLaw.retestHost (h.of_binding (t := s.remarkCopy.endCopy .stopped))
  · split
    · exact BindingLaw.retestHost (h.of_binding (t := s.remarkCopy.withdrawRequest.endCopy .stopped))
    · exact h

end

theorem Effect.keeps_bindingLaw {s t : State} (heff : Effect s t) (h : BindingLaw s) (hjournal : JournalLaw s) : BindingLaw t := by
  cases heff with
  | unchanged | ownFields | counters => exact h
  | passes t hready | admitted t b hready | stalled t b hready =>
    exact h.of_unbound (h.unbound (by simp [State.of_hostReady hready]) (by simp [State.of_hostReady hready])) rfl nofun rfl
  | misaligned hready | fenced hready =>
    exact h.of_unbound (h.unbound (by simp [State.of_hostReady hready]) (by simp [State.of_hostReady hready])) rfl nofun rfl
  | claimed t b hready =>
    have hwaits : BindingLaw { s with host := { s.admittedPort t b with claim := true } } :=
      h.of_unbound (h.unbound (by simp [State.of_hostReady hready]) (by simp [State.of_hostReady hready])) rfl nofun rfl
    exact hwaits.of_binding
  | marked t b hready =>
    have hwaits : BindingLaw { s with host := s.admittedPort t b } :=
      h.of_unbound (h.unbound (by simp [State.of_hostReady hready]) (by simp [State.of_hostReady hready])) rfl nofun rfl
    exact hwaits.of_binding
  | initDrops hwaits =>
    exact h.of_unbound (h.unbound (by rcases hwaits with hw | hw <;> simp [hw]) (by rcases hwaits with hw | hw <;> simp [hw])) rfl nofun
  | initReleases hwaits =>
    have hdropped : BindingLaw s.dropHost := h.of_unbound (h.unbound (by simp [hwaits]) (by simp [hwaits])) rfl nofun
    exact hdropped.of_binding
  | initAbandons => exact bindingLaw_of_unbound h.unbind_no_waiter rfl nofun
  | initEndsHold => exact bindingLaw_of_cleared rfl nofun (u := s) rfl
  | forwarded t htxn hgrant =>
    exact h.forward hgrant (by rw [State.releaseClaim_host (by simp [(State.of_hostGrantable hgrant).1]), State.countHostGrant_host])
      (by simp) t
  | dirtied t ds htxn hgrant =>
    exact h.forward hgrant
      (by rw [State.markDirty_host, State.releaseClaim_host (by simp [(State.of_hostGrantable hgrant).1]), State.countHostGrant_host])
      (by simp) t
  | merged t bound htxn hgrant hrole hup htail =>
    obtain ⟨hstate, -, -⟩ := State.of_hostGrantable hgrant
    have hnone := h.no_waiter (h.unbound (by simp [hstate]) (by simp [hstate]))
    have hmerged := bindingLaw_merge (t := t) (host := { s.host with state := .inMemory, claim := false, bound := bound }) hnone htail rfl
    refine hmerged.of_binding (by simp [State.changeTail]) (State.forward_host_of_grant ?_ t)
    rw [State.releaseClaim_host (by exact hstate)]
  | appended t bound b htxn hgrant =>
    obtain ⟨hstate, -, -⟩ := State.of_hostGrantable hgrant
    have hnone := h.no_waiter (h.unbound (by simp [hstate]) (by simp [hstate]))
    have hjoined := bindingLaw_append (r := lineRecord (s.txnLine t) t bound)
      (host := { s.host with state := .inMemory, claim := false, bound := bound }) hnone rfl nofun rfl rfl
    refine hjoined.of_binding ?_ (State.forward_host_of_grant (by simp) t)
    rw [State.forward_journal, map_eq_of_contents (fun _ _ => Record.binding_of_contents) (State.kick_contents _), State.waterTest_records]
    simp
  | grantFenced hgrant =>
    obtain ⟨hstate, -, -⟩ := State.of_hostGrantable hgrant
    exact h.of_unbound (h.unbound (by simp [hstate]) (by simp [hstate])) rfl nofun
  | hostHeld u huse hown hbound =>
    obtain ⟨hcount, -, -, hsound⟩ := (bindingLaw_iff s).mp h
    exact (bindingLaw_iff _).mpr ⟨hcount, fun _ => .inr rfl, fun _ => hbound, hsound⟩
  | hostDone u a huse hown hbound => exact h.of_unbound hbound rfl nofun
  | hostDiscarded => exact h
  | hostTimedOut u ds =>
    have hanswered : BindingLaw (s.unbind.freePort.answer .fault) := bindingLaw_of_unbound h.unbind_no_waiter rfl nofun
    exact hanswered.of_binding
  | abandonedTimedOut => exact h.of_binding
  | spaceExpired n hwait => exact (h.toPortWait hwait false).of_binding
  | holdExpired hhold => exact bindingLaw_of_cleared rfl nofun (u := s) rfl
  | selected b => exact (BindingLaw.retestHost (h.of_binding (t := s.select b))).finish
  | sweepGranted c =>
    have hjoined : BindingLaw (s.appendRecord (placeholder c.lineIndex)) := h.appendPlain rfl
    rw [State.beginSweepRead_eq]
    exact BindingLaw.waterTest hjoined
  | readStopped c data =>
    have hfilled : BindingLaw (s.readFilled data) := h.fillPlaceholder data
    exact (BindingLaw.retestHost (hfilled.of_binding (t := (s.readFilled data).stopCopy))).finish
  | readAdvanced c data =>
    have hfilled : BindingLaw (s.readFilled data) := h.fillPlaceholder data
    exact (BindingLaw.retestHost (hfilled.of_binding (t := (s.readFilled data).advanceCopy c))).finish
  | readTimedOut =>
    have hgone : BindingLaw s.endSweepRead.withdrawPlaceholder := BindingLaw.withdrawPlaceholder (s := s.endSweepRead) h
    have hcounted : BindingLaw (s.endSweepRead.withdrawPlaceholder.remarkCopy.afterReadTimeout s.sweep.stopPending) := hgone.of_binding
    exact hcounted.announceRise.waterTest.finish
  | orphanEnded | heard | nakCounted => exact h
  | repeated => exact BindingLaw.kick h.of_binding
  | kept => exact BindingLaw.kick h
  | silent => exact h.loseLink.finish
  | resent => exact BindingLaw.kick (s := s.rewoundForRetry.startRetx) h.rewind
  | exhausted => exact BindingLaw.finish (BindingLaw.localHalt (s := s.rewoundForRetry) h.rewind _)
  | frameEnded => exact BindingLaw.kick h
  | helloTested | startTested => exact BindingLaw.finish h.of_binding
  | helloInUp => exact BindingLaw.finish (BindingLaw.of_binding (BindingLaw.loseLink (s := s.restartSilence) h))
  | startInUp => exact BindingLaw.finish (BindingLaw.of_binding (BindingLaw.loseLink (s := s.restartSilence) h))
  | startRepeated => exact BindingLaw.kick h
  | ready => exact BindingLaw.finish h.of_binding
  | dataTaken r => exact BindingLaw.kick h.of_binding
  | acked n => exact BindingLaw.kick (BindingLaw.of_binding (BindingLaw.remove (s := s.restartSilence) h n))
  | naked d => exact BindingLaw.kick (BindingLaw.acceptNak (s := s.restartSilence.bump .naksReceived) h d)
  | halted r => exact BindingLaw.finish (BindingLaw.departUp (s := s.restartSilence) h .halted)
  | applyGranted => exact h
  | applyContinued => exact BindingLaw.finish h
  | applied => exact BindingLaw.finish h.of_binding
  | applyFaults => exact BindingLaw.finish (BindingLaw.localHalt (s := s.applyFaulted) h _)
  | promotionFaults => exact BindingLaw.finish (BindingLaw.of_binding (BindingLaw.localHalt (s := s.applyFaulted) h .applyFault))
  | regionWritten => exact h
  | paramWritten p v => exact BindingLaw.afterParam (s := { s with params := s.params.put p v }) h p v
  | becamePrimary => exact BindingLaw.finish h
  | becameReplica => exact BindingLaw.finish h
  | leftPrimary => exact h.leavePrimary hjournal
  | repairStarted => exact h.of_binding
  | repairStopped => exact h.stopSweep.of_binding
  | markerPlaced tag =>
    have hplaced : BindingLaw { s.appendRecord (markerRecord tag) with
        pair := { s.pair with outstanding := s.pair.outstanding ++ [tag] } } := h.appendPlain rfl
    have hfallen : BindingLaw (State.sweepFall { s.appendRecord (markerRecord tag) with
        pair := { s.pair with outstanding := s.pair.outstanding ++ [tag] } }) := hplaced.of_binding
    exact hfallen.waterTest.kick
  | markersRead => exact h
  | relinked => exact BindingLaw.finish h
  | promoted =>
    rw [State.beginPromotion_eq, State.promotionBegun_frame]
    exact BindingLaw.finish h.of_binding
  | faultCleared | alertsRead | alertsAcked | alertsEnabled => exact h
  | softReset => exact h.softReset
  | powerOnReset => exact bindingLaw_of_empty rfl rfl nofun

/-- Settles O13: every effect keeps the law beside the journal's, and so does every step. -/
theorem stepKeepsBindingLaw : Obligations.StepKeepsBindingLaw := fun _ _ hbinding _ hjournal =>
  step_keeps (Q := fun s => BindingLaw s ∧ JournalLaw s) (fun _ _ _ _ _ h => h) (fun _ _ _ _ _ h => h)
    (fun _ _ heff ⟨hb, hj⟩ => heff.keeps_bindingLaw hb hj) ⟨hbinding, hjournal⟩

end Sys2Proof.Machine

/-! PROOF. The mirror window and the region lookup (R2 to R5): the blocks a fill takes, the blocks a transaction touches, and the bytes of its
line that a write names. -/

namespace Sys2Proof.Machine

open Sys2Proof

set_option Elab.async false

/-! ## The blocks a fill takes (R54) -/

theorem isMirrored_iff (rs : Vector Region 16) (b : Block) :
    isMirrored rs b = true ↔ ∃ r, deciding rs b = some r ∧ r.mode ≠ .off := by
  unfold isMirrored blockMode
  cases deciding rs b with
  | none => simp
  | some r => simp

theorem Region.holds_iff (r : Region) (b : Block) : r.holds b = true ↔ r.valid = true ∧ (b ^^^ r.pattern) &&& r.care = 0 := by
  simp [Region.holds]

/-- An entry that takes in a mirrored block is met by every half the block lies in (R5). -/
theorem Region.meets_of_holds {r : Region} {b : Block} {k : Nat} (hmode : r.mode ≠ .off) (h : r.holds b = true) :
    r.meets k (b.toNat >>> k) = true := by
  obtain ⟨hvalid, hbits⟩ := (r.holds_iff b).mp h
  have hhigh : ((BitVec.ofNat 16 (b.toNat >>> k <<< k) ^^^ r.pattern) &&& r.care) >>> k = 0 := by
    ext i hi
    have hbit : ((b ^^^ r.pattern) &&& r.care).getLsbD (k + i) = false := by rw [hbits]; simp
    simp only [BitVec.getLsbD_and, BitVec.getLsbD_xor, BitVec.getLsbD_ofNat, BitVec.getElem_ushiftRight, Nat.testBit_shiftLeft,
      Nat.testBit_shiftRight] at hbit ⊢
    by_cases hlt : k + i < 16
    · simpa [hlt, BitVec.testBit_toNat] using hbit
    · have hout : r.care.getLsbD (k + i) = false := BitVec.getLsbD_of_ge _ _ (Nat.le_of_not_lt hlt)
      simp [hout]
  simp [Region.meets, hvalid, hmode, hhigh]

theorem mem_mirroredFrom (rs : Vector Region 16) (b : Block) (k high : Nat) (hhigh : high < 2 ^ (16 - k)) (hk : k ≤ 16) :
    b ∈ mirroredFrom rs k high ↔ isMirrored rs b = true ∧ b.toNat >>> k = high := by
  induction k generalizing high with
  | zero =>
    have heq : b = BitVec.ofNat 16 high ↔ b.toNat = high := by
      constructor
      · rintro rfl
        rw [BitVec.toNat_ofNat, Nat.mod_eq_of_lt hhigh]
      · rintro rfl
        simp
    unfold mirroredFrom
    split
    · next hmirrored =>
      rw [List.mem_singleton, Nat.shiftRight_zero, heq]
      exact ⟨fun h => ⟨(heq.mpr h).symm ▸ hmirrored, h⟩, fun h => h.2⟩
    · next hmirrored =>
      rw [Nat.shiftRight_zero]
      simp only [List.not_mem_nil, false_iff]
      rintro ⟨hb, hn⟩
      exact hmirrored (heq.mpr hn ▸ hb)
  | succ k ih =>
    have hpow : 2 ^ (16 - k) = 2 * 2 ^ (16 - (k + 1)) := by
      rw [← Nat.pow_succ']
      congr 1
      omega
    have hhalves : b.toNat >>> (k + 1) = high ↔ b.toNat >>> k = 2 * high ∨ b.toNat >>> k = 2 * high + 1 := by
      rw [Nat.shiftRight_succ]
      omega
    unfold mirroredFrom
    split
    · rw [List.mem_append, ih (2 * high) (by omega) (by omega), ih (2 * high + 1) (by omega) (by omega), hhalves]
      exact and_or_left.symm
    · next hnone =>
      simp only [List.not_mem_nil, false_iff]
      rintro ⟨hmirrored, rfl⟩
      obtain ⟨r, hr, hmode⟩ := (isMirrored_iff rs b).mp hmirrored
      refine hnone (List.any_eq_true.mpr ⟨r, List.mem_of_find?_eq_some hr, ?_⟩)
      have hholds := List.find?_some hr
      exact Region.meets_of_holds hmode hholds

theorem pairwise_mirroredFrom (rs : Vector Region 16) (k high : Nat) (hhigh : high < 2 ^ (16 - k)) (hk : k ≤ 16) :
    (mirroredFrom rs k high).Pairwise fun a b => a.toNat < b.toNat := by
  induction k generalizing high with
  | zero =>
    unfold mirroredFrom
    split
    · exact List.pairwise_singleton _ _
    · exact List.Pairwise.nil
  | succ k ih =>
    have hpow : 2 ^ (16 - k) = 2 * 2 ^ (16 - (k + 1)) := by
      rw [← Nat.pow_succ']
      congr 1
      omega
    unfold mirroredFrom
    split
    · refine List.pairwise_append.mpr ⟨ih (2 * high) (by omega) (by omega), ih (2 * high + 1) (by omega) (by omega), fun a ha b hb => ?_⟩
      have hlow := ((mem_mirroredFrom rs a k (2 * high) (by omega) (by omega)).mp ha).2
      have hup := ((mem_mirroredFrom rs b k (2 * high + 1) (by omega) (by omega)).mp hb).2
      rw [Nat.shiftRight_eq_div_pow] at hlow hup
      refine Classical.byContradiction fun hge => ?_
      have hmono := Nat.div_le_div_right (c := 2 ^ k) (Nat.le_of_not_lt hge)
      omega
    · exact List.Pairwise.nil

theorem mem_mirroredBlocks (rs : Vector Region 16) (b : Block) : b ∈ mirroredBlocks rs ↔ isMirrored rs b = true := by
  have hzero : b.toNat >>> 16 = 0 := by
    rw [Nat.shiftRight_eq_div_pow]
    exact Nat.div_eq_of_lt b.isLt
  rw [mirroredBlocks, mem_mirroredFrom rs b 16 0 (by decide) (by decide), hzero]
  simp

theorem pairwise_mirroredBlocks (rs : Vector Region 16) : (mirroredBlocks rs).Pairwise fun a b => a.toNat < b.toNat :=
  pairwise_mirroredFrom rs 16 0 (by decide) (by decide)

/-- Settles O21: the halves by which the fill goes through the blocks miss no mirrored block, since an entry reaches each of its halves. -/
theorem fillTakesTheMirroredBlocks : Obligations.FillTakesTheMirroredBlocks :=
  fun rs => ⟨pairwise_mirroredBlocks rs, mem_mirroredBlocks rs⟩

/-! ## Addresses, blocks and lines (R3) -/

/-- A window base of R3 is a multiple of 256 MiB. -/
theorem toNat_mod_of_base {base : Addr} (h : base.extractLsb' 0 28 = 0) : base.toNat % 2 ^ 28 = 0 := by
  have hbits := congrArg BitVec.toNat h
  simpa using hbits

/-- The block of an address is decided by its page of 4 KiB. -/
theorem blockOf_eq {base : Addr} (h : base.extractLsb' 0 28 = 0) (a : Addr) :
    blockOf base a =
      if a.toNat / 2 ^ 28 = base.toNat / 2 ^ 28 then some (BitVec.ofNat 16 (a.toNat / 2 ^ 12)) else none := by
  have hbase := toNat_mod_of_base h
  have hwindow : a.extractLsb' 28 4 = base.extractLsb' 28 4 ↔ a.toNat / 2 ^ 28 = base.toNat / 2 ^ 28 := by
    rw [← BitVec.toNat_inj]
    simp only [BitVec.extractLsb'_toNat, Nat.shiftRight_eq_div_pow]
    have ha := a.isLt
    have hb := base.isLt
    omega
  have hblock : (a - base).extractLsb' 12 16 = BitVec.ofNat 16 (a.toNat / 2 ^ 12) := by
    apply BitVec.eq_of_toNat_eq
    simp only [BitVec.extractLsb'_toNat, Nat.shiftRight_eq_div_pow, BitVec.toNat_sub, BitVec.toNat_ofNat]
    have ha := a.isLt
    have hb := base.isLt
    omega
  unfold blockOf
  rw [hblock]
  by_cases hw : a.toNat / 2 ^ 28 = base.toNat / 2 ^ 28
  · rw [if_pos hw, if_pos (hwindow.mpr hw)]
  · rw [if_neg hw, if_neg (mt hwindow.mp hw)]

theorem blockOf_congr {base a c : Addr} (h : base.extractLsb' 0 28 = 0) (hpage : a.toNat / 2 ^ 12 = c.toNat / 2 ^ 12) :
    blockOf base a = blockOf base c := by
  have hwindow : a.toNat / 2 ^ 28 = c.toNat / 2 ^ 28 := by omega
  rw [blockOf_eq h, blockOf_eq h, hpage, hwindow]

/-- The line of an address lies in the address's block. -/
theorem lineBlock_lineOf {base a : Addr} {b : Block} (h : blockOf base a = some b) : lineBlock (lineOf base a) = b := by
  unfold blockOf at h
  split at h
  · obtain rfl := Option.some.inj h
    apply BitVec.eq_of_toNat_eq
    simp only [lineBlock, lineOf, BitVec.extractLsb'_toNat, Nat.shiftRight_eq_div_pow]
    omega
  · simp at h

theorem toNat_and_not_low (a : Addr) (m : Nat) :
    (a &&& ~~~BitVec.ofNat 32 (2 ^ m - 1)).toNat = a.toNat / 2 ^ m * 2 ^ m := by
  have hmask : a &&& ~~~BitVec.ofNat 32 (2 ^ m - 1) = a >>> m <<< m := by
    apply BitVec.eq_of_getLsbD_eq
    intro i hi
    have hones : (BitVec.ofNat 32 (2 ^ m - 1)).getLsbD i = decide (i < m) := by
      rw [BitVec.getLsbD_ofNat, Nat.testBit_two_pow_sub_one]
      simp [hi]
    rw [BitVec.getLsbD_and, BitVec.getLsbD_not, hones, BitVec.getLsbD_shiftLeft, BitVec.getLsbD_ushiftRight]
    by_cases hlow : i < m
    · simp [hlow]
    · simp [hlow, hi, Nat.add_sub_cancel' (Nat.le_of_not_lt hlow)]
  have hle : a.toNat / 2 ^ m * 2 ^ m < 2 ^ 32 := Nat.lt_of_le_of_lt (Nat.div_mul_le_self _ _) a.isLt
  rw [hmask, BitVec.toNat_shiftLeft, BitVec.toNat_ushiftRight, Nat.shiftLeft_eq, Nat.shiftRight_eq_div_pow, Nat.mod_eq_of_lt hle]

theorem toNat_beatAddr (a : Addr) : (a &&& ~~~7#32).toNat = a.toNat / 8 * 8 := toNat_and_not_low a 3

theorem toNat_lineAddr (a : Addr) : (a &&& ~~~63#32).toNat = a.toNat / 64 * 64 := toNat_and_not_low a 6

/-! ## The bytes a transaction writes (R2) -/

section
variable {t : BusTxn}

theorem mem_written_beat {lanes : BitVec 8} {data : BeatBytes} (ht : t.access = .writeBeat lanes data) (a : Addr) :
    a ∈ written t ↔ ∃ j < 8, lanes.getLsbD j = true ∧ (t.addr &&& ~~~7#32) + BitVec.ofNat 32 j = a := by
  simp [written, ht, and_assoc]

theorem mem_written_line {data : LineBytes} (ht : t.access = .writeLine data) (a : Addr) :
    a ∈ written t ↔ ∃ j < 64, t.addr + BitVec.ofNat 32 j = a := by
  simp [written, ht]

theorem misaligned_line_iff {data : LineBytes} (ht : t.access = .writeLine data) :
    misalignedLineWrite t = true ↔ t.addr.toNat % 64 ≠ 0 := by
  have hlow : t.addr.extractLsb' 0 6 = 0#6 ↔ t.addr.toNat % 64 = 0 := by
    rw [← BitVec.toNat_inj]
    simp
  simpa [misalignedLineWrite, ht] using not_congr hlow

/-- A write that is not a misaligned LINE write stays in its address's page. -/
theorem page_of_written (halign : misalignedLineWrite t = false) {a : Addr} (ha : a ∈ written t) :
    a.toNat / 2 ^ 12 = t.addr.toNat / 2 ^ 12 := by
  cases haccess : t.access with
  | readBeat => simp [written, haccess] at ha
  | readLine => simp [written, haccess] at ha
  | writeBeat lanes data =>
    obtain ⟨j, hj, -, rfl⟩ := (mem_written_beat haccess a).mp ha
    rw [BitVec.toNat_add, toNat_beatAddr, BitVec.toNat_ofNat]
    have hlt := t.addr.isLt
    omega
  | writeLine data =>
    have hzero : t.addr.toNat % 64 = 0 := by
      refine Classical.byContradiction fun hne => ?_
      simp [(misaligned_line_iff haccess).mpr hne] at halign
    obtain ⟨j, hj, rfl⟩ := (mem_written_line haccess a).mp ha
    rw [BitVec.toNat_add, BitVec.toNat_ofNat]
    have hlt := t.addr.isLt
    omega

/-- A misaligned LINE write stays in the pages of its first and last byte. -/
theorem page_of_misaligned (hmis : misalignedLineWrite t = true) {a : Addr} (ha : a ∈ written t) :
    a.toNat / 2 ^ 12 = t.addr.toNat / 2 ^ 12 ∨ a.toNat / 2 ^ 12 = (t.addr + 63).toNat / 2 ^ 12 := by
  cases haccess : t.access with
  | readBeat => simp [written, haccess] at ha
  | readLine => simp [written, haccess] at ha
  | writeBeat lanes data => simp [misalignedLineWrite, haccess] at hmis
  | writeLine data =>
    obtain ⟨j, hj, rfl⟩ := (mem_written_line haccess a).mp ha
    have hlast : (t.addr + 63).toNat = (t.addr.toNat + 63) % 2 ^ 32 := by simp [BitVec.toNat_add]
    rw [hlast, BitVec.toNat_add, BitVec.toNat_ofNat]
    have hlt := t.addr.isLt
    omega

end

/-! ## The blocks touched (R2) -/

theorem mem_distinct (b : Block) (bs : List Block) : b ∈ distinct bs ↔ b ∈ bs := by
  induction bs with
  | nil => rfl
  | cons c rest ih =>
    rw [distinct, List.mem_cons, List.mem_filter, ih, List.mem_cons]
    by_cases h : b = c
    · simp [h]
    · simp [h]

theorem nodup_distinct (bs : List Block) : (distinct bs).Nodup := by
  induction bs with
  | nil => exact List.nodup_nil
  | cons c rest ih =>
    rw [distinct, List.nodup_cons]
    exact ⟨by simp, ih.filter _⟩

theorem mem_touched (base : Addr) (t : BusTxn) (b : Block) : b ∈ touched base t ↔ ∃ a ∈ written t, blockOf base a = some b := by
  rw [touched, mem_distinct, List.mem_filterMap]

theorem touched_length_le {base : Addr} {t : BusTxn} {bs : List Block} (h : ∀ b ∈ touched base t, b ∈ bs) :
    (touched base t).length ≤ bs.length := (nodup_distinct _).length_le_of_subset fun b hb => h b hb

/-- The block touched by a write that is not a misaligned LINE write is its address's. -/
theorem blockOf_of_touched {base : Addr} {t : BusTxn} {b : Block} (hbase : base.extractLsb' 0 28 = 0)
    (halign : misalignedLineWrite t = false) (hb : b ∈ touched base t) : blockOf base t.addr = some b := by
  obtain ⟨a, ha, hblock⟩ := (mem_touched base t b).mp hb
  rw [blockOf_congr hbase (page_of_written halign ha).symm, hblock]

theorem blockOf_of_misaligned {base : Addr} {t : BusTxn} {b : Block} (hbase : base.extractLsb' 0 28 = 0)
    (hmis : misalignedLineWrite t = true) (hb : b ∈ touched base t) : blockOf base t.addr = some b ∨ blockOf base (t.addr + 63) = some b := by
  obtain ⟨a, ha, hblock⟩ := (mem_touched base t b).mp hb
  rcases page_of_misaligned hmis ha with hpage | hpage
  · exact .inl (by rw [blockOf_congr hbase hpage.symm, hblock])
  · exact .inr (by rw [blockOf_congr hbase hpage.symm, hblock])

theorem touched_of_written_nil {base : Addr} {t : BusTxn} (h : written t = []) : touched base t = [] := by
  rw [touched, h]
  rfl

/-- Settles O20: a write stays in one page of its block, or in two when it is misaligned. -/
theorem touchedBlocksAreFew : Obligations.TouchedBlocksAreFew := by
  intro base t hbase
  refine ⟨fun hread => touched_of_written_nil ?_, fun data ht => touched_of_written_nil ?_, fun halign => ?_, fun hmis => ?_,
    mem_touched base t⟩
  · cases haccess : t.access with
    | readBeat => simp [written, haccess]
    | readLine => simp [written, haccess]
    | writeBeat => simp [isWriteTxn, haccess] at hread
    | writeLine => simp [isWriteTxn, haccess] at hread
  · simp [written, ht]
  · refine Nat.le_trans (touched_length_le (bs := (blockOf base t.addr).toList) fun b hb => ?_) ?_
    · simp [blockOf_of_touched hbase halign hb]
    · cases blockOf base t.addr <;> simp
  · refine Nat.le_trans
      (touched_length_le (bs := (blockOf base t.addr).toList ++ (blockOf base (t.addr + 63)).toList) fun b hb => ?_) ?_
    · rw [List.mem_append, Option.mem_toList, Option.mem_toList]
      exact blockOf_of_misaligned hbase hmis hb
    · cases blockOf base t.addr <;> cases blockOf base (t.addr + 63) <;> simp

/-! ## The mask and the data of a write (R14, R34) -/

theorem toNat_extract_beat (a : Addr) : (a.extractLsb' 3 3).toNat = a.toNat / 8 % 8 := by
  simp [BitVec.extractLsb'_toNat, Nat.shiftRight_eq_div_pow]

section
variable {t : BusTxn} {lanes : BitVec 8} {data : BeatBytes}

theorem writeMask_beat (ht : t.access = .writeBeat lanes data) (k : Fin 64) :
    (writeMask t).getLsbD k.val = true ↔
      8 * (t.addr.toNat / 8 % 8) ≤ k.val ∧ lanes.getLsbD (k.val - 8 * (t.addr.toNat / 8 % 8)) = true := by
  have hlane : lanes.getLsbD (k.val - 8 * (t.addr.toNat / 8 % 8)) = true → k.val - 8 * (t.addr.toNat / 8 % 8) < 64 := fun _ =>
    Nat.lt_of_le_of_lt (Nat.sub_le _ _) k.isLt
  simp only [writeMask, ht, BitVec.getLsbD_shiftLeft, BitVec.getLsbD_setWidth, toNat_extract_beat]
  simp only [k.isLt, decide_true, Bool.true_and, Bool.and_eq_true, Bool.not_eq_true', decide_eq_false_iff_not, Nat.not_lt,
    decide_eq_true_eq]
  rw [and_iff_right_of_imp hlane]

theorem writeMask_line {line : LineBytes} (ht : t.access = .writeLine line) (k : Fin 64) : (writeMask t).getLsbD k.val = true := by
  simp only [writeMask, ht, BitVec.getLsbD_allOnes, k.isLt, decide_true]

/-- The bytes of a line that a BEAT write writes. -/
theorem mem_written_of_beat (ht : t.access = .writeBeat lanes data) (k : Fin 64) :
    (t.addr &&& ~~~63#32) + BitVec.ofNat 32 k.val ∈ written t ↔
      8 * (t.addr.toNat / 8 % 8) ≤ k.val ∧ lanes.getLsbD (k.val - 8 * (t.addr.toNat / 8 % 8)) = true := by
  have haddr : ∀ j < 8, (t.addr &&& ~~~7#32) + BitVec.ofNat 32 j = (t.addr &&& ~~~63#32) + BitVec.ofNat 32 k.val ↔
      8 * (t.addr.toNat / 8 % 8) + j = k.val := by
    intro j hj
    rw [← BitVec.toNat_inj, BitVec.toNat_add, BitVec.toNat_add, toNat_beatAddr, toNat_lineAddr, BitVec.toNat_ofNat, BitVec.toNat_ofNat]
    have hlt := t.addr.isLt
    have hk := k.isLt
    omega
  rw [mem_written_beat ht]
  constructor
  · rintro ⟨j, hj, hlane, heq⟩
    have hk := (haddr j hj).mp heq
    rw [← hk, Nat.add_sub_cancel_left]
    exact ⟨Nat.le_add_right _ _, hlane⟩
  · rintro ⟨hle, hlane⟩
    have hlt : k.val - 8 * (t.addr.toNat / 8 % 8) < 8 := BitVec.lt_of_getLsbD hlane
    exact ⟨_, hlt, hlane, (haddr _ hlt).mpr (by omega)⟩

theorem mem_written_of_line {line : LineBytes} (ht : t.access = .writeLine line) (halign : misalignedLineWrite t = false) (k : Fin 64) :
    (t.addr &&& ~~~63#32) + BitVec.ofNat 32 k.val ∈ written t := by
  have hzero : t.addr.toNat % 64 = 0 := by
    refine Classical.byContradiction fun hne => ?_
    simp [(misaligned_line_iff ht).mpr hne] at halign
  refine (mem_written_line ht _).mpr ⟨k.val, k.isLt, ?_⟩
  congr 1
  apply BitVec.eq_of_toNat_eq
  rw [toNat_lineAddr]
  omega

theorem writeData_line {line : LineBytes} (ht : t.access = .writeLine line) : writeData t = line := by simp [writeData, ht]

theorem writeData_beat (ht : t.access = .writeBeat lanes data) (k : Fin 64) :
    (writeData t)[k] = if (writeMask t).getLsbD k.val then data[k.val % 8] else 0 := by
  simp [writeData, ht]

end

/-- Settles O22: a BEAT write's lanes stand at its beat of the line, and an aligned LINE write is the line. -/
theorem maskNamesTheBytesWritten : Obligations.MaskNamesTheBytesWritten := by
  intro t hwrite halign k
  cases haccess : t.access with
  | readBeat => simp [isWriteTxn, haccess] at hwrite
  | readLine => simp [isWriteTxn, haccess] at hwrite
  | writeBeat lanes data =>
    refine ⟨(writeMask_beat haccess k).trans (mem_written_of_beat haccess k).symm, fun hclear => ?_, fun line h => ?_,
      fun lanes' data' j h hk => ?_⟩
    · rw [writeData_beat haccess, hclear]
      rfl
    · cases h
    · cases h
      rw [toNat_extract_beat] at hk
      have hlane : (writeMask t).getLsbD k.val = lanes.getLsbD j.val := by
        rw [Bool.eq_iff_iff, writeMask_beat haccess, hk, Nat.add_sub_cancel_left]
        simp
      have hmod : k.val % 8 = j.val := by omega
      refine ⟨hlane, fun hset => ?_⟩
      rw [writeData_beat haccess, hlane, if_pos hset]
      simp [hmod]
  | writeLine line =>
    refine ⟨iff_of_true (writeMask_line haccess k) (mem_written_of_line haccess halign k), fun hclear => ?_, fun line' h => ?_,
      fun lanes' data' j h => ?_⟩
    · rw [writeMask_line haccess] at hclear
      cases hclear
    · cases h
      rw [writeData_line haccess]
    · cases h

end Sys2Proof.Machine

/-! PROOF. The dirty map's law (R51, R28, R3): the count is the number of flags, held in rising order, and every block that a request can
name is mirrored. -/

namespace Sys2Proof.Machine

open Sys2Proof

set_option Elab.async false

/-! ## Maps -/

/-- The map's own part of R51, for a table of regions. -/
def SoundMap (rs : Vector Region 16) (m : DirtyMap) : Prop :=
  m.count = m.flags.length ∧ m.flags.Pairwise (fun a b => a.toNat < b.toNat) ∧ ∀ b ∈ m.flags, isMirrored rs b = true

theorem insertBlock_length (b : Block) (bs : List Block) : (insertBlock b bs).length = bs.length + 1 := by
  induction bs with
  | nil => rfl
  | cons c rest ih =>
    unfold insertBlock
    split
    · rfl
    · rw [List.length_cons, ih, List.length_cons]

theorem insertBlock_pairwise {b : Block} {bs : List Block} (h : bs.Pairwise fun a c => a.toNat < c.toNat) (hb : b ∉ bs) :
    (insertBlock b bs).Pairwise fun a c => a.toNat < c.toNat := by
  induction bs with
  | nil => exact List.pairwise_singleton _ _
  | cons c rest ih =>
    obtain ⟨hc, hrest⟩ := List.pairwise_cons.mp h
    obtain ⟨hne, hnot⟩ : b ≠ c ∧ b ∉ rest := by simpa using hb
    unfold insertBlock
    split
    · next hlt =>
      refine List.pairwise_cons.mpr ⟨fun d hd => ?_, h⟩
      rcases List.mem_cons.mp hd with rfl | hd
      · exact hlt
      · exact Nat.lt_trans hlt (hc d hd)
    · next hge =>
      have hcb : c.toNat < b.toNat := by
        have hnat : b.toNat ≠ c.toNat := fun he => hne (BitVec.eq_of_toNat_eq he)
        omega
      refine List.pairwise_cons.mpr ⟨fun d hd => ?_, ih hrest hnot⟩
      rcases mem_insertBlock.mp hd with rfl | hd
      · exact hcb
      · exact hc d hd

section
variable {rs : Vector Region 16} {m : DirtyMap}

theorem SoundMap.set (h : SoundMap rs m) {b : Block} (hb : isMirrored rs b = true) : SoundMap rs (m.set b) := by
  obtain ⟨hcount, hrising, hmirrored⟩ := h
  unfold DirtyMap.set
  split
  · exact ⟨hcount, hrising, hmirrored⟩
  · next hclear =>
    have hnot : b ∉ m.flags := fun hmem => hclear (List.contains_iff_mem.mpr hmem)
    refine ⟨?_, insertBlock_pairwise hrising hnot, fun a ha => ?_⟩
    · dsimp only
      rw [insertBlock_length, hcount]
    · rcases mem_insertBlock.mp ha with rfl | ha
      · exact hb
      · exact hmirrored a ha

theorem SoundMap.setAll (h : SoundMap rs m) {bs : List Block} (hbs : ∀ b ∈ bs, isMirrored rs b = true) :
    SoundMap rs (bs.foldl DirtyMap.set m) := by
  induction bs generalizing m with
  | nil => exact h
  | cons b rest ih => exact ih (h.set (hbs b List.mem_cons_self)) fun a ha => hbs a (List.mem_cons_of_mem _ ha)

theorem SoundMap.clear (h : SoundMap rs m) {b : Block} (hb : b ∈ m.flags) (cursor : Block) :
    SoundMap rs { m.clear b with cursor := cursor } := by
  obtain ⟨hcount, hrising, hmirrored⟩ := h
  refine ⟨?_, hrising.sublist List.erase_sublist, fun a ha => hmirrored a (List.mem_of_mem_erase ha)⟩
  simp [DirtyMap.clear, hcount, List.length_erase_of_mem hb]

theorem soundMap_filled (rs : Vector Region 16) (cursor : Block) :
    SoundMap rs { flags := mirroredBlocks rs, count := (mirroredBlocks rs).length, cursor := cursor } :=
  ⟨rfl, pairwise_mirroredBlocks rs, fun b => (mem_mirroredBlocks rs b).mp⟩

theorem DirtyMap.mem_of_nextDirty {b : Block} (h : m.nextDirty = some b) : b ∈ m.flags := by
  unfold DirtyMap.nextDirty at h
  split at h
  · next c hc =>
    obtain rfl := Option.some.inj h
    exact List.mem_of_find?_eq_some hc
  · exact List.mem_of_head? h

end

/-! ## The blocks a request of the part's own can name -/

/-- The blocks of the journal's records and of the copy. -/
def State.ownBlocks (s : State) : List Block := s.journal.records.filterMap Record.block? ++ (s.sweep.copy.map Copy.block).toList

section
variable {s : State}

theorem State.mem_ownBlocks_of_record {b : Block} (h : b ∈ s.journal.records.filterMap Record.block?) : b ∈ s.ownBlocks :=
  List.mem_append.mpr (.inl h)

theorem State.mem_ownBlocks_of_copy {c : Copy} (h : s.sweep.copy = some c) : c.block ∈ s.ownBlocks :=
  List.mem_append.mpr (.inr (by simp [h]))

theorem State.ownBlocks_congr {t : State} (hrecords : t.journal.records.filterMap Record.block? = s.journal.records.filterMap Record.block?)
    (hcopy : t.sweep.copy = s.sweep.copy) : t.ownBlocks = s.ownBlocks := by
  rw [State.ownBlocks, State.ownBlocks, hrecords, hcopy]

/-- Outside role Primary there is no flag, no record and no copy. -/
def State.Vacant (s : State) : Prop := s.map.flags = [] ∧ s.journal.records = [] ∧ s.sweep.copy = none

/-- A write in SPACE_WAIT is a primary's, and its noted block is mirrored. -/
def State.WaitsMirrored (s : State) : Prop :=
  s.host.state = .spaceWait → s.role = .primary ∧ ∀ n ∈ s.host.noted, isMirrored s.regions n.block = true

theorem mapLaw_iff (s : State) :
    MapLaw s ↔ SoundMap s.regions s.map ∧ (∀ b ∈ s.ownBlocks, isMirrored s.regions b = true) ∧ (s.role ≠ .primary → s.Vacant) ∧
      s.WaitsMirrored ∧ s.params.windowBase.extractLsb' 0 28 = 0 := by
  have hown : (∀ b ∈ s.ownBlocks, isMirrored s.regions b = true) ↔
      (∀ b ∈ s.journal.records.filterMap Record.block?, isMirrored s.regions b = true) ∧
        ∀ c ∈ s.sweep.copy, isMirrored s.regions c.block = true := by
    rw [State.ownBlocks, List.forall_mem_append]
    cases s.sweep.copy <;> simp
  rw [hown]
  constructor
  · rintro ⟨hcount, hrising, hmirrored, hvacant, hrecords, hcopy, hwait, hbase⟩
    exact ⟨⟨hcount, hrising, hmirrored⟩, ⟨hrecords, hcopy⟩, hvacant, hwait, hbase⟩
  · rintro ⟨⟨hcount, hrising, hmirrored⟩, ⟨hrecords, hcopy⟩, hvacant, hwait, hbase⟩
    exact ⟨hcount, hrising, hmirrored, hvacant, hrecords, hcopy, hwait, hbase⟩

theorem MapLaw.sound (h : MapLaw s) : SoundMap s.regions s.map := ((mapLaw_iff s).mp h).1

theorem MapLaw.own (h : MapLaw s) : ∀ b ∈ s.ownBlocks, isMirrored s.regions b = true := ((mapLaw_iff s).mp h).2.1

theorem MapLaw.records (h : MapLaw s) : ∀ b ∈ s.journal.records.filterMap Record.block?, isMirrored s.regions b = true :=
  fun b hb => h.own b (State.mem_ownBlocks_of_record hb)

theorem MapLaw.base (h : MapLaw s) : s.params.windowBase.extractLsb' 0 28 = 0 := by
  obtain ⟨-, -, -, -, -, -, -, hbase⟩ := h
  exact hbase

theorem MapLaw.vacant (h : MapLaw s) (hrole : s.role ≠ .primary) : s.Vacant := by
  obtain ⟨-, -, -, hvacant, -⟩ := h
  exact hvacant hrole

theorem MapLaw.waits (h : MapLaw s) : s.WaitsMirrored := by
  obtain ⟨-, -, -, -, -, -, hwait, -⟩ := h
  exact hwait

/-! ## What keeps the law -/

/-- The part may drop records and its copy, and the host port may leave SPACE_WAIT. -/
theorem MapLaw.of_less {t : State} (h : MapLaw s) (hown : ∀ b ∈ t.ownBlocks, b ∈ s.ownBlocks)
    (hrecords : s.journal.records = [] → t.journal.records = [] := by simp) (hmap : t.map = s.map := by simp)
    (hhost : t.host.state = .spaceWait → s.host.state = .spaceWait ∧ t.host.noted = s.host.noted := by simp) (hrole : t.role = s.role := by simp)
    (hregions : t.regions = s.regions := by simp) (hparams : t.params = s.params := by simp) : MapLaw t := by
  obtain ⟨hsound, hmirrored, hvacant, hwait, hbase⟩ := (mapLaw_iff s).mp h
  refine (mapLaw_iff t).mpr ⟨?_, fun b hb => ?_, fun hr => ?_, fun hs => ?_, ?_⟩
  · rwa [hregions, hmap]
  · rw [hregions]
    exact hmirrored b (hown b hb)
  · obtain ⟨hflags, hnone, hcopy⟩ := hvacant (hrole ▸ hr)
    refine ⟨by rw [hmap, hflags], hrecords hnone, Option.eq_none_iff_forall_ne_some.mpr fun c hc => ?_⟩
    have hmem := hown _ (State.mem_ownBlocks_of_copy hc)
    simp [State.ownBlocks, hnone, hcopy] at hmem
  · obtain ⟨hwaited, hnoted⟩ := hhost hs
    rw [hrole, hregions, hnoted]
    exact hwait hwaited
  · rwa [hparams]

theorem MapLaw.of_same {t : State} (h : MapLaw s) (hrecords : t.journal.records = s.journal.records := by simp)
    (hcopy : t.sweep.copy = s.sweep.copy := by simp) (hmap : t.map = s.map := by simp)
    (hhost : t.host.state = .spaceWait → s.host.state = .spaceWait ∧ t.host.noted = s.host.noted := by simp) (hrole : t.role = s.role := by simp)
    (hregions : t.regions = s.regions := by simp) (hparams : t.params = s.params := by simp) : MapLaw t := by
  have hown : t.ownBlocks = s.ownBlocks := State.ownBlocks_congr (by rw [hrecords]) hcopy
  exact h.of_less (fun b hb => hown ▸ hb) (fun hnone => hrecords.trans hnone) hmap hhost hrole hregions hparams

/-- No record moved to another block. -/
theorem MapLaw.of_blocks {t : State} (h : MapLaw s)
    (hrecords : t.journal.records.map Record.block? = s.journal.records.map Record.block?) (hcopy : t.sweep.copy = s.sweep.copy := by simp)
    (hmap : t.map = s.map := by simp) (hhost : t.host.state = .spaceWait → s.host.state = .spaceWait ∧ t.host.noted = s.host.noted := by simp)
    (hrole : t.role = s.role := by simp) (hregions : t.regions = s.regions := by simp) (hparams : t.params = s.params := by simp) :
    MapLaw t := by
  have hfilter : t.journal.records.filterMap Record.block? = s.journal.records.filterMap Record.block? := by
    have hview (rs : List Record) : rs.filterMap Record.block? = (rs.map Record.block?).filterMap id := by
      rw [List.filterMap_map]
      rfl
    rw [hview, hview, hrecords]
  have hown : t.ownBlocks = s.ownBlocks := State.ownBlocks_congr hfilter hcopy
  refine h.of_less (fun b hb => hown ▸ hb) (fun hnone => ?_) hmap hhost hrole hregions hparams
  rw [hnone] at hrecords
  simpa using hrecords

/-- With no flag, no record, no copy and no write in SPACE_WAIT the law asks only for the window base. -/
theorem mapLaw_of_vacant (hvacant : s.Vacant) (hcount : s.map.count = 0) (hhost : s.host.state ≠ .spaceWait)
    (hbase : s.params.windowBase.extractLsb' 0 28 = 0) : MapLaw s := by
  obtain ⟨hflags, hrecords, hcopy⟩ := hvacant
  refine (mapLaw_iff s).mpr ⟨⟨?_, ?_, ?_⟩, ?_, fun _ => ⟨hflags, hrecords, hcopy⟩, fun hs => absurd hs hhost, hbase⟩
  · rw [hcount, hflags]
    rfl
  · simp [hflags]
  · simp [hflags]
  · simp [State.ownBlocks, hrecords, hcopy]

/-- A part that is no primary may change its role and its regions. -/
theorem MapLaw.of_idle {t : State} (h : MapLaw s) (hidle : s.role ≠ .primary) (hmap : t.map = s.map := by simp)
    (hrecords : t.journal.records = s.journal.records := by simp) (hcopy : t.sweep.copy = s.sweep.copy := by simp)
    (hhost : t.host.state = .spaceWait → s.host.state = .spaceWait ∧ t.host.noted = s.host.noted := by simp) (hparams : t.params = s.params := by simp) : MapLaw t := by
  obtain ⟨hflags, hnone, hnocopy⟩ := h.vacant hidle
  obtain ⟨hcount, -, -⟩ := h.sound
  refine mapLaw_of_vacant ⟨hmap ▸ hflags, hrecords.trans hnone, hcopy.trans hnocopy⟩ ?_ (fun hs => ?_) (hparams ▸ h.base)
  · rw [hmap, hcount, hflags]
    rfl
  · exact hidle (h.waits (hhost hs).1).1

theorem MapLaw.withMap {m : DirtyMap} (h : MapLaw s) (hm : SoundMap s.regions m) (hrole : s.role = .primary) : MapLaw { s with map := m } := by
  obtain ⟨-, hmirrored, -, hwait, hbase⟩ := (mapLaw_iff s).mp h
  exact (mapLaw_iff _).mpr ⟨hm, hmirrored, fun hr => absurd hrole hr, hwait, hbase⟩

/-- A block of the map given to the copy (R60). -/
theorem MapLaw.withCopy {c : Copy} {w : Sweep} (h : MapLaw s) (hc : isMirrored s.regions c.block = true) (hrole : s.role = .primary)
    (hw : w.copy = some c) : MapLaw { s with sweep := w } := by
  obtain ⟨hsound, -, -, hwait, hbase⟩ := (mapLaw_iff s).mp h
  refine (mapLaw_iff _).mpr ⟨hsound, fun b hb => ?_, fun hr => absurd hrole hr, hwait, hbase⟩
  rcases List.mem_append.mp hb with hb | hb
  · exact h.records b hb
  · have heq : b = c.block := by simpa [hw] using hb
    exact heq ▸ hc

/-- A record joins whose block is mirrored, if it has one. -/
theorem MapLaw.appendRecord {r : Record} (h : MapLaw s) (hr : ∀ b ∈ r.block?, isMirrored s.regions b = true) (hrole : s.role = .primary) :
    MapLaw (s.appendRecord r) := by
  obtain ⟨hsound, hmirrored, -, hwait, hbase⟩ := (mapLaw_iff s).mp h
  refine (mapLaw_iff _).mpr ⟨hsound, fun b hb => ?_, fun hidle => absurd hrole hidle, hwait, hbase⟩
  have hsplit : b ∈ s.ownBlocks ∨ r.block? = some b := by
    simp only [State.ownBlocks, State.appendRecord, List.filterMap_append, List.mem_append] at hb ⊢
    rcases hb with (hb | hb) | hb
    · exact .inl (.inl hb)
    · exact .inr (by simpa using hb)
    · exact .inl (.inr hb)
  exact hsplit.elim (hmirrored b) (hr b)

/-- A write comes into SPACE_WAIT (R10, R11). -/
theorem MapLaw.withHost {p : HostPort} (h : MapLaw s) (hrole : s.role = .primary)
    (hnoted : ∀ n ∈ p.noted, isMirrored s.regions n.block = true) : MapLaw { s with host := p } := by
  obtain ⟨hsound, hmirrored, hvacant, -, hbase⟩ := (mapLaw_iff s).mp h
  exact (mapLaw_iff _).mpr ⟨hsound, hmirrored, hvacant, fun _ => ⟨hrole, hnoted⟩, hbase⟩

/-! ## The operations -/

theorem MapLaw.autoStart (h : MapLaw s) : MapLaw s.autoStart := h.of_same

theorem MapLaw.setFlags {bs : List Block} (h : MapLaw s) (hbs : ∀ b ∈ bs, isMirrored s.regions b = true) : MapLaw (s.setFlags bs) := by
  unfold State.setFlags
  split
  · exact h
  · next hrole =>
    have hset : MapLaw { s with map := bs.foldl DirtyMap.set s.map } := h.withMap (h.sound.setAll hbs) (Classical.not_not.mp hrole)
    dsimp only
    split
    · exact hset.autoStart
    · exact hset

theorem MapLaw.markDirty {bs : List Block} (h : MapLaw s) (hbs : ∀ b ∈ bs, isMirrored s.regions b = true) : MapLaw (s.markDirty bs) := by
  unfold State.markDirty
  split
  · exact h
  · exact (h.setFlags hbs).of_same

theorem MapLaw.remarkCopy (h : MapLaw s) : MapLaw s.remarkCopy := by
  unfold State.remarkCopy
  split
  · next c hc =>
    refine h.setFlags fun b hb => ?_
    obtain rfl : b = c.block := by simpa using hb
    exact h.own _ (State.mem_ownBlocks_of_copy hc)
  · exact h

theorem MapLaw.endCopy (h : MapLaw s) (dest : SweepState) : MapLaw (s.endCopy dest) :=
  h.of_less fun b hb => List.mem_append.mpr (.inl (by simpa [State.ownBlocks] using hb))

theorem MapLaw.fillMap (h : MapLaw s) (hrole : s.role = .primary) : MapLaw s.fillMap := h.withMap (soundMap_filled s.regions 0) hrole

theorem State.withdrawRequest_copy : s.withdrawRequest.sweep.copy = s.sweep.copy := by rw [State.withdrawRequest_sweep_eq]

theorem State.sweepFall_copy : s.sweepFall.sweep.copy = s.sweep.copy := by
  unfold State.sweepFall
  split <;> rfl

theorem State.sweepRise_copy : s.sweepRise.sweep.copy = s.sweep.copy := by
  unfold State.sweepRise
  split <;> rfl

theorem MapLaw.sweepFall (h : MapLaw s) : MapLaw s.sweepFall := h.of_same (by simp) State.sweepFall_copy

theorem MapLaw.sweepRise (h : MapLaw s) : MapLaw s.sweepRise := h.of_same (by simp) State.sweepRise_copy

theorem MapLaw.toPortWait (h : MapLaw s) (claim : Bool) : MapLaw (s.toPortWait claim) := h.of_same rfl rfl rfl nofun

theorem MapLaw.retestHost (h : MapLaw s) : MapLaw s.retestHost := by
  unfold State.retestHost
  split
  · split
    · exact h.toPortWait false
    · exact (h.toPortWait true).sweepFall
    · exact h.toPortWait false
    · exact h
    · exact h
  · exact h

theorem MapLaw.announceRise (h : MapLaw s) : MapLaw s.announceRise := h.retestHost.sweepRise

theorem MapLaw.waterTest (h : MapLaw s) : MapLaw s.waterTest := h.of_same s.waterTest_records

theorem MapLaw.releaseHold (h : MapLaw s) : MapLaw s.releaseHold := by
  unfold State.releaseHold
  split
  · exact h.of_same rfl rfl rfl nofun
  · exact h.of_same rfl rfl rfl fun hs => ⟨hs, rfl⟩
  · exact h

theorem MapLaw.sweepLinkDown (h : MapLaw s) : MapLaw s.sweepLinkDown := by
  unfold State.sweepLinkDown
  split
  · exact h
  · exact h
  · have hgiven : MapLaw s.remarkCopy.withdrawRequest := h.remarkCopy.of_same (by simp) State.withdrawRequest_copy
    exact (hgiven.endCopy .idle).of_same

theorem MapLaw.failMarkers (h : MapLaw s) : MapLaw s.failMarkers := h.of_same

theorem MapLaw.sessionEnd (h : MapLaw s) : MapLaw s.sessionEnd := by
  have hfailed := (h.setFlags h.records).failMarkers
  have hemptied : MapLaw { (s.setFlags (s.journal.records.filterMap Record.block?)).failMarkers with
      journal := { s.journal with records := [] } } :=
    hfailed.of_less fun b hb => List.mem_append.mpr (.inr (by simpa [State.ownBlocks] using hb))
  have hcleared : MapLaw s.sessionCleared := hemptied.releaseHold
  have hreset : MapLaw s.sessionCleared.sweepLinkDown.retestHost.resetSender := 
    hcleared.sweepLinkDown.retestHost
  rw [State.sessionEnd_eq]
  exact hreset.waterTest

theorem MapLaw.departUp (h : MapLaw s) (dest : LinkState) : MapLaw (s.departUp dest) := by
  have hset : MapLaw (s.setLink dest) := h
  simp only [State.departUp]
  split
  · exact hset.sessionEnd
  · exact hset

theorem MapLaw.loseLink (h : MapLaw s) : MapLaw s.loseLink := h.departUp .training

theorem MapLaw.localHalt (h : MapLaw s) (r : HaltReason) : MapLaw (s.localHalt r) := by
  unfold State.localHalt
  split
  · exact MapLaw.departUp (s := s.dueHalt r) h .halted
  · exact h
  · exact h

theorem map_block_of_contents {rs xs : List Record} (h : rs.map Record.contents = xs.map Record.contents) :
    rs.map Record.block? = xs.map Record.block? := by
  refine map_eq_of_contents (fun r x hrx => ?_) h
  have hbody : r.body = x.body := congrArg Prod.fst hrx
  rw [Record.block?, Record.block?, hbody]

theorem map_block_map {f : Record → Record} (hf : ∀ r, (f r).block? = r.block?) (rs : List Record) :
    (rs.map f).map Record.block? = rs.map Record.block? := by
  simp [hf]

theorem Record.clearedWaiter_block? (r : Record) : Record.block? { r with waiter := false } = r.block? := rfl

theorem Record.merge_block? (t : BusTxn) (bound : Bool) (r : Record) : (r.merge t bound).block? = r.block? := by
  unfold Record.merge
  split
  · next h => simp [Record.block?, h]
  · rfl

theorem Record.fill_block? (data : LineBytes) (r : Record) : (r.fill data).block? = r.block? := by
  unfold Record.fill
  split
  · next h => simp [Record.block?, h]
  · rfl

theorem MapLaw.kick (h : MapLaw s) : MapLaw s.kick := h.of_blocks (map_block_of_contents s.kick_contents)

theorem MapLaw.finish (h : MapLaw s) : MapLaw s.finish := MapLaw.kick (s := s.derivePair) h.of_same

theorem MapLaw.clearWaiter (h : MapLaw s) : MapLaw s.clearWaiter := h.of_blocks (map_block_map Record.clearedWaiter_block? _)

theorem MapLaw.unbind (h : MapLaw s) : MapLaw s.unbind := by
  unfold State.unbind
  split
  · exact h.clearWaiter
  · exact h

theorem MapLaw.rewind (h : MapLaw s) : MapLaw s.rewind := h.of_blocks (map_block_map Record.rewind_block? _)

theorem MapLaw.fillPlaceholder (h : MapLaw s) (data : LineBytes) : MapLaw (s.fillPlaceholder data) :=
  h.of_blocks (map_block_map (Record.fill_block? data) _)

theorem MapLaw.changeTail (h : MapLaw s) (t : BusTxn) (bound : Bool) : MapLaw (s.changeTail (Record.merge t bound)) :=
  h.of_blocks (map_changeLast (Record.merge_block? t bound) s.journal.records)

theorem MapLaw.withRecords {rs : List Record} (h : MapLaw s) (hrs : ∀ r ∈ rs, r ∈ s.journal.records) :
    MapLaw { s with journal := { s.journal with records := rs } } := by
  refine h.of_less (fun b hb => ?_) fun hnone => List.eq_nil_iff_forall_not_mem.mpr fun r hr => ?_
  · rcases List.mem_append.mp hb with hb | hb
    · obtain ⟨r, hr, hblock⟩ := List.mem_filterMap.mp hb
      exact State.mem_ownBlocks_of_record (List.mem_filterMap.mpr ⟨r, hrs r hr, hblock⟩)
    · exact List.mem_append.mpr (.inr hb)
  · simpa [hnone] using hrs r hr

theorem MapLaw.withdrawPlaceholder (h : MapLaw s) : MapLaw s.withdrawPlaceholder := by
  have hkept : MapLaw { s with journal := { s.journal with records := s.journal.records.filter fun r => r.state != .filling } } :=
    h.withRecords fun r hr => (List.mem_filter.mp hr).1
  refine hkept.setFlags fun b hb => ?_
  obtain ⟨r, hr, hblock⟩ := List.mem_filterMap.mp hb
  exact h.records b (List.mem_filterMap.mpr ⟨r, (List.mem_filter.mp hr).1, hblock⟩)

theorem MapLaw.handOff (h : MapLaw s) (r : Record) : MapLaw (s.handOff r) := by
  unfold State.handOff
  split
  · rw [State.markerReached_frame]
    exact h
  · split
    · exact h.releaseHold
    · exact h

theorem MapLaw.removeHead (h : MapLaw s) (n : Nat) : MapLaw (removeHead n s) := by
  induction n generalizing s with
  | zero => exact h
  | succ n ih =>
    unfold Machine.removeHead
    split
    · exact h
    · next r rest hrs =>
      have hrest : MapLaw { s with journal := { s.journal with records := rest } } :=
        h.withRecords fun x hx => hrs ▸ List.mem_cons_of_mem _ hx
      exact ih (hrest.handOff r)

theorem MapLaw.remove (h : MapLaw s) (n : Nat) : MapLaw (s.remove n) := by
  cases n with
  | zero => exact h
  | succ n => exact (h.removeHead (n + 1)).announceRise.waterTest

theorem MapLaw.progress (h : MapLaw s) : MapLaw s.progress := h.of_same

theorem MapLaw.acceptNak (h : MapLaw s) (d : Nat) : MapLaw (s.acceptNak d) := by
  have hremoved := (h.remove (s.journal.nakRemoves d)).rewind
  unfold State.acceptNak
  dsimp only
  split
  · split
    · exact hremoved
    · exact hremoved
  · exact hremoved.progress

theorem MapLaw.releaseClaim (h : MapLaw s) : MapLaw s.releaseClaim := by
  unfold State.releaseClaim
  split
  · have hfreed : MapLaw { s with host := { s.host with claim := false } } := by
      obtain ⟨hsound, hmirrored, hvacant, hwait, hbase⟩ := (mapLaw_iff s).mp h
      exact (mapLaw_iff _).mpr ⟨hsound, hmirrored, hvacant, hwait, hbase⟩
    exact hfreed.announceRise
  · exact h

theorem MapLaw.forward (h : MapLaw s) (t : BusTxn) : MapLaw (s.forward t) := h.of_same rfl rfl rfl nofun

theorem MapLaw.reserveTest (h : MapLaw s) : MapLaw s.reserveTest := by
  refine h.of_same (by simp) ?_
  unfold State.reserveTest
  split <;> rfl

theorem MapLaw.select {b : Block} (h : MapLaw s) (hb : s.map.nextDirty = some b) : MapLaw (s.select b) := by
  have hflag := DirtyMap.mem_of_nextDirty hb
  have hmirrored : isMirrored s.regions b = true := by
    obtain ⟨-, -, hall⟩ := h.sound
    exact hall b hflag
  have hrole : s.role = .primary := by
    refine Classical.byContradiction fun hr => ?_
    simp [(h.vacant hr).1] at hflag
  have hcleared : MapLaw { s with map := { s.map.clear b with cursor := b + 1 } } := h.withMap (h.sound.clear hflag _) hrole
  have hcopied : MapLaw { s with map := { s.map.clear b with cursor := b + 1 },
                                 sweep := { s.sweep with copy := some { block := b, line := 0 } } } :=
    hcleared.withCopy (c := { block := b, line := 0 }) hmirrored hrole rfl
  exact hcopied.reserveTest

theorem MapLaw.role_of_copy {c : Copy} (h : MapLaw s) (hc : s.sweep.copy = some c) : s.role = .primary := by
  refine Classical.byContradiction fun hr => ?_
  obtain ⟨-, -, hnone⟩ := h.vacant hr
  simp [hnone] at hc

theorem MapLaw.enterScanning (h : MapLaw s) : MapLaw s.enterScanning := h

theorem MapLaw.stopCopy (h : MapLaw s) : MapLaw s.stopCopy := h.remarkCopy.endCopy .stopped

theorem MapLaw.advanceCopy {c : Copy} (h : MapLaw s) (hc : s.sweep.copy = some c) : MapLaw (s.advanceCopy c) := by
  unfold State.advanceCopy
  split
  · exact MapLaw.endCopy (s := s.bump .sweepBlocksCopied) h .scanning
  · have hmirrored : isMirrored s.regions c.block = true := h.own _ (State.mem_ownBlocks_of_copy hc)
    have hnext : MapLaw { s with sweep := { s.sweep with copy := some { c with line := c.line + 1 } } } :=
      h.withCopy (c := { c with line := c.line + 1 }) hmirrored (h.role_of_copy hc) rfl
    exact hnext.reserveTest

theorem MapLaw.afterReadTimeout (h : MapLaw s) (stopPending : Bool) : MapLaw (s.afterReadTimeout stopPending) := by
  have hcounted : MapLaw { s with sweep := { s.sweep with timeouts := s.sweep.timeouts + 1 } } := h
  unfold State.afterReadTimeout
  dsimp only
  split
  · exact hcounted.endCopy .stopped
  · split
    · exact hcounted.endCopy .stopped
    · exact hcounted.endCopy .scanning

theorem MapLaw.startSweep (h : MapLaw s) : MapLaw s.startSweep := by
  unfold State.startSweep
  dsimp only
  split <;> exact h

theorem MapLaw.stopSweep (h : MapLaw s) : MapLaw s.stopSweep := by
  have hgiven : MapLaw s.remarkCopy.withdrawRequest := h.remarkCopy.of_same (by simp) State.withdrawRequest_copy
  unfold State.stopSweep
  split
  · exact h
  · exact h
  · exact h
  · exact (h.remarkCopy.endCopy .stopped).retestHost
  · split
    · exact (hgiven.endCopy .stopped).retestHost
    · exact h

/-! ## The sessions, the roles and the parameters -/

theorem MapLaw.roleConflict (h : MapLaw s) : MapLaw s.roleConflict := by
  unfold State.roleConflict
  split
  · exact h
  · exact h

theorem MapLaw.testHello (h : MapLaw s) (hello : Hello) : MapLaw (s.testHello hello) := by
  unfold State.testHello
  split
  · next hrole =>
    split
    · exact h.roleConflict
    · split
      · split
        · unfold State.decide
          dsimp only
          split
          · exact MapLaw.fillMap (s := { s with link := _ }) h hrole
          · exact h
        · unfold State.recheck
          split
          · exact h
          · split
            · exact h
            · exact MapLaw.fillMap (s := { s with link := _ }) h hrole
      · exact h
  · split
    · exact h.roleConflict
    · exact h
  · exact h

theorem MapLaw.endPromotion (h : MapLaw s) : MapLaw s.endPromotion := by
  unfold State.endPromotion
  split
  · next hend => exact h.of_idle (by simp [hend.1])
  · exact h

theorem MapLaw.becomePrimary (h : MapLaw s) (hrole : s.role = .standalone) : MapLaw s.becomePrimary := by
  have hprimary : MapLaw (State.restartCounts { s with role := .primary }) := h.of_idle (by simp [hrole])
  unfold State.becomePrimary
  exact MapLaw.finish (s := (State.restartCounts { s with role := .primary }).fillMap.enterTraining) (hprimary.fillMap rfl)

theorem HostPort.leavePrimary_state (p : HostPort) : p.leavePrimary.state ≠ .spaceWait := by
  unfold HostPort.leavePrimary
  cases h : p.state <;> simp [h]

theorem HostPort.softReset_state (p : HostPort) : p.softReset.state ≠ .spaceWait := by
  unfold HostPort.softReset
  cases h : p.state <;> simp [h, HostPort.idle]

theorem MapLaw.leavePrimary (h : MapLaw s) : MapLaw s.leavePrimary := by
  refine MapLaw.finish (mapLaw_of_vacant ⟨?_, ?_, ?_⟩ ?_ ?_ ?_)
  · simp [DirtyMap.clean]
  · simp [Journal.powerOn]
  · simp [Sweep.powerOn]
  · simp [DirtyMap.clean]
  · simpa using HostPort.leavePrimary_state _
  · simpa using h.base

/-- R3: WINDOW_BASE is written in its range. -/
theorem Params.put_base {ps : Params} {p : Param} {v : BitVec 32} (hrange : p.inRange v = true)
    (h : ps.windowBase.extractLsb' 0 28 = 0) : (ps.put p v).windowBase.extractLsb' 0 28 = 0 := by
  cases p with
  | windowBase => simpa [Param.inRange, Params.put] using hrange
  | _ => exact h

theorem MapLaw.putParam {p : Param} {v : BitVec 32} (h : MapLaw s) (hrange : p.inRange v = true) :
    MapLaw { s with params := s.params.put p v } := by
  obtain ⟨hsound, hmirrored, hvacant, hwait, hbase⟩ := (mapLaw_iff s).mp h
  exact (mapLaw_iff _).mpr ⟨hsound, hmirrored, hvacant, hwait, Params.put_base hrange hbase⟩

theorem MapLaw.afterParam (h : MapLaw s) (p : Param) (v : BitVec 32) : MapLaw (s.afterParam p v) := by
  unfold State.afterParam
  split
  · exact h.waterTest
  · exact h.waterTest
  · split
    · exact h.autoStart.of_same
    · exact h
  · exact h

/-- The LINE record of a write stands in the block the write touches (R2, R34). -/
theorem MapLaw.lineRecord {t : BusTxn} {b : Block} (h : MapLaw s) (halign : misalignedLineWrite t = false) (hb : b ∈ s.touchedMirrored t)
    (bound : Bool) : ∀ d ∈ (lineRecord (s.txnLine t) t bound).block?, isMirrored s.regions d = true := by
  intro d hd
  have htouched : b ∈ touched s.params.windowBase t := (List.mem_filter.mp hb).1
  have hblock : lineBlock (s.txnLine t) = b := lineBlock_lineOf (blockOf_of_touched h.base halign htouched)
  obtain rfl : lineBlock (s.txnLine t) = d := by simpa [Machine.lineRecord, Record.block?] using hd
  rw [hblock]
  exact State.isMirrored_of_touched hb

theorem Copy.lineBlock_lineIndex (c : Copy) : lineBlock c.lineIndex = c.block := by
  apply BitVec.eq_of_toNat_eq
  have hline : c.line.toNat < 64 := c.line.isLt
  have hblock : c.block.toNat < 65536 := c.block.isLt
  rw [lineBlock, BitVec.extractLsb'_toNat, Copy.toNat_lineIndex, Nat.shiftRight_eq_div_pow]
  omega

end

theorem Effect.keeps_mapLaw {s t : State} (heff : Effect s t) (h : MapLaw s) : MapLaw t := by
  cases heff with
  | unchanged | ownFields | counters => exact h
  | passes | misaligned | fenced | admitted => exact h.of_same rfl rfl rfl nofun
  | claimed t b => exact MapLaw.sweepFall (s := { s with host := { s.admittedPort t b with claim := true } }) (h.of_same rfl rfl rfl nofun)
  | marked t b hready hrole hb =>
    have hport : MapLaw (State.bump .overflowMarks { s with host := s.admittedPort t b }) := h.of_same rfl rfl rfl nofun
    exact hport.markDirty (by simpa using hb)
  | stalled t b hready hrole hb => exact h.withHost hrole (by simpa [State.admittedPort, State.note] using hb)
  | initDrops => exact h.of_same rfl rfl rfl nofun
  | initReleases => exact MapLaw.sweepRise (s := s.dropHost) (h.of_same rfl rfl rfl nofun)
  | initAbandons => exact h.unbind.of_same rfl rfl rfl nofun
  | initEndsHold => exact h.clearWaiter.of_same rfl rfl rfl nofun
  | forwarded t =>
    have hcounted : MapLaw s.countHostGrant := h.of_same
    exact hcounted.releaseClaim.forward t
  | dirtied t ds htxn hgrant hrole hds =>
    have hcounted : MapLaw s.countHostGrant := h.of_same
    exact (hcounted.releaseClaim.markDirty (by simpa using hds)).forward t
  | merged t bound =>
    have hcounted : MapLaw s.countHostGrant := h.of_same
    have hmerged : MapLaw { s.countHostGrant.changeTail (Record.merge t bound) with host := { s.host with bound := bound } } :=
      (hcounted.changeTail t bound).of_same rfl rfl rfl (by simp [State.changeTail])
    exact hmerged.releaseClaim.forward t
  | appended t bound b htxn hgrant hrole hup hclaim halign hb =>
    have hcounted : MapLaw s.countHostGrant := h.of_same
    have hjoined : MapLaw (s.countHostGrant.appendRecord (lineRecord (s.txnLine t) t bound)) :=
      hcounted.appendRecord (by simpa using h.lineRecord halign hb bound) (by simpa using hrole)
    have hbound : MapLaw { s.countHostGrant.appendRecord (lineRecord (s.txnLine t) t bound) with
        host := { s.host with claim := false, bound := bound } } := hjoined.of_same rfl rfl rfl (by simp [State.appendRecord])
    exact hbound.waterTest.kick.forward t
  | grantFenced => exact h.of_same (by simp) (by simp) (by simp) nofun
  | hostHeld => exact h.of_same rfl rfl rfl nofun
  | hostDone => exact h.of_same rfl rfl rfl nofun
  | hostDiscarded => exact h
  | hostTimedOut u ds huse hown hds =>
    have hanswered : MapLaw (((s.unbind.freePort.answer .fault).bump .memoryTimeouts).report .memoryTimeout) :=
      h.unbind.of_same rfl rfl rfl nofun
    exact hanswered.markDirty (by simpa using hds)
  | abandonedTimedOut u ds huse hown hds =>
    have hfreed : MapLaw ((s.freePort.bump .memoryTimeouts).report .memoryTimeout) := h
    exact hfreed.markDirty hds
  | spaceExpired n hwait hnoted =>
    have hported : MapLaw (State.bump .stallTimeouts (s.toPortWait false)) := h.toPortWait false
    refine hported.markDirty fun b hb => ?_
    obtain rfl : b = n.block := by simpa using hb
    exact (h.waits hwait).2 n hnoted
  | holdExpired => exact h.clearWaiter.of_same rfl rfl rfl nofun
  | selected b hscan hb => exact (h.select hb).retestHost.finish
  | sweepGranted c hc =>
    have hbegun : MapLaw { s with
        mem := { s.mem with use := some ⟨.sweep, ⟨lineAddr s.params.windowBase c.lineIndex, .readLine⟩, s.params.memLimit⟩, sweepWait := 0 },
        sweep := { s.sweep with request := false, read := some ⟨c.lineIndex, true⟩ } } := h
    have hjoined := hbegun.appendRecord (r := placeholder c.lineIndex) (by
      simpa [placeholder, Record.block?, Copy.lineBlock_lineIndex] using h.own _ (State.mem_ownBlocks_of_copy hc)) (h.role_of_copy hc)
    rw [State.beginSweepRead_eq]
    exact hjoined.waterTest
  | readStopped c data => 
    have hfilled : MapLaw (s.readFilled data) := h.fillPlaceholder data
    exact hfilled.stopCopy.retestHost.finish
  | readAdvanced c data hc =>
    have hfilled : MapLaw (s.readFilled data) := h.fillPlaceholder data
    exact (hfilled.advanceCopy hc).retestHost.finish
  | readTimedOut =>
    have hended : MapLaw s.endSweepRead := h
    exact (hended.withdrawPlaceholder.remarkCopy.afterReadTimeout _).announceRise.waterTest.finish
  | orphanEnded | heard | nakCounted => exact h
  | repeated => exact MapLaw.kick h.of_same
  | kept => exact MapLaw.kick h
  | silent => exact h.loseLink.finish
  | resent => exact MapLaw.kick (s := s.rewoundForRetry.startRetx) h.rewind
  | exhausted => exact (MapLaw.localHalt (s := s.rewoundForRetry) h.rewind _).finish
  | frameEnded => exact MapLaw.kick h
  | helloTested hello => exact (h.testHello hello).finish
  | helloInUp hello => exact ((MapLaw.loseLink (s := s.restartSilence) h).testHello hello).finish
  | startTested => exact MapLaw.finish h.of_same
  | startRepeated => exact MapLaw.kick h
  | startInUp session mode =>
    have hlost := MapLaw.loseLink (s := s.restartSilence) h
    exact MapLaw.finish hlost.of_same
  | ready => exact MapLaw.finish h.of_same
  | dataTaken => exact MapLaw.kick h.of_same
  | acked n => exact (MapLaw.remove (s := s.restartSilence) h n).progress.kick
  | naked d => exact (MapLaw.acceptNak (s := s.restartSilence.bump .naksReceived) h d).kick
  | halted r => exact MapLaw.finish (MapLaw.departUp (s := s.restartSilence) h .halted)
  | applyGranted => exact h
  | applyContinued => exact MapLaw.finish h
  | applied =>
    have happlied : MapLaw s.freePort.applyHead := h.of_same
    exact happlied.endPromotion.finish
  | applyFaults => exact (MapLaw.localHalt (s := s.applyFaulted) h _).finish
  | promotionFaults =>
    have hdrained : MapLaw (s.applyFaulted.localHalt .applyFault).discardQueue := MapLaw.localHalt (s := s.applyFaulted) h _
    exact hdrained.endPromotion.finish
  | regionWritten index r hrole => exact h.of_idle (by simp [hrole])
  | paramWritten p v hrange => exact (h.putParam hrange).afterParam p v
  | becamePrimary hrole => exact h.becomePrimary hrole
  | becameReplica hrole => exact MapLaw.finish (h.of_idle (by simp [hrole]))
  | leftPrimary => exact h.leavePrimary
  | repairStarted => exact h.startSweep.of_same
  | repairStopped => exact h.stopSweep.of_same
  | markerPlaced tag hrole =>
    have hplaced : MapLaw { s.appendRecord (markerRecord tag) with
        pair := { s.pair with outstanding := s.pair.outstanding ++ [tag] } } := h.appendRecord (r := markerRecord tag) nofun hrole
    exact hplaced.sweepFall.waterTest.kick
  | markersRead => exact h
  | relinked => exact MapLaw.finish h
  | promoted hrole =>
    rw [State.beginPromotion_eq, State.promotionBegun_frame]
    exact MapLaw.finish (h.of_idle (by simp [hrole]))
  | faultCleared | alertsRead | alertsAcked | alertsEnabled => exact h
  | softReset => exact mapLaw_of_vacant ⟨rfl, rfl, rfl⟩ rfl (HostPort.softReset_state _) h.base
  | powerOnReset => exact mapLaw_of_vacant ⟨rfl, rfl, rfl⟩ rfl nofun (by simp [State.powerOnReset, State.reset, Params.powerOn])

/-- Settles O8: every effect keeps the law, and so does every step. -/
theorem stepKeepsMapLaw : Obligations.StepKeepsMapLaw := fun _ _ h =>
  step_keeps (Q := MapLaw) (fun _ _ _ _ _ h => h) (fun _ _ _ _ _ h => h) (fun _ _ heff h => heff.keeps_mapLaw h) h

end Sys2Proof.Machine

/-! PROOF. The part right after a power-on reset: the values of every block, and the thirteen laws. -/

namespace Sys2Proof.Machine

open Sys2Proof

set_option Elab.async false

theorem mapLaw_reset : MapLaw State.reset := mapLaw_of_vacant ⟨rfl, rfl, rfl⟩ rfl nofun (by decide)

/-- Settles O3: a part with nothing in it, whose link is OFF. -/
theorem lawsHoldAtReset : Obligations.LawsHoldAtReset := by
  refine ⟨?alert, ?pair, ?sweep, mapLaw_reset, ?fence, ?capacity, ?marker, ?journal, ?binding, ?host, ?link, ?transmitter, ?replica⟩
  case alert => decide +kernel
  case pair => decide
  case sweep => exact sweepLaw_of_powerOn rfl rfl
  case fence => exact fun hrole => absurd hrole (by decide)
  case capacity => decide
  case marker => decide
  case journal => exact journalLaw_of_empty rfl (by decide)
  case binding => decide
  case host => decide
  case link => decide
  case transmitter => decide
  case replica => decide

/-- Settles O2, block by block. -/
theorem resetLeavesTheBooksValues : Obligations.ResetLeavesTheBooksValues := by
  refine ⟨rfl, ?regions, rfl, by decide, by decide, by decide, by decide, rfl, by decide, rfl, rfl, rfl, rfl, rfl, by decide, by decide,
    by decide, ?causes, rfl, rfl, ?counters⟩
  case regions => decide +kernel
  case causes => decide +kernel
  case counters => exact fun c => by cases c <;> rfl

end Sys2Proof.Machine

/-! PROOF. The host port's course (R6 to R17, R22): arrivals, grants, the ends at memory, the expiries of HOLD_LIMIT, and INIT. -/

namespace Sys2Proof.Machine

open Sys2Proof

set_option Elab.async false

/-! ## What the operations of the port leave, said whole -/

section
variable {s : State}

/-- R141: after a derivation the pair state is the one Table 7.2 gives. -/
theorem State.derivePair_derived : s.derivePair.pair.state = s.derivePair.derivedPair := by
  rw [State.derivePair_state]
  exact (State.derivedPair_congr (by simp) (by simp) (by simp) (by simp) (by simp)).symm

/-- Flags set by a host port's event (R51, R56): the map, and the pair state derived anew. -/
theorem State.markDirty_on_primary {bs : List Block} (hrole : s.role = .primary) (hne : bs ≠ []) :
    s.markDirty bs =
        { s with map := bs.foldl DirtyMap.set s.map, sweep := (s.markDirty bs).sweep, pair := (s.markDirty bs).pair,
                 alert := (s.markDirty bs).alert } ∧
      (s.markDirty bs).pair.state = (s.markDirty bs).derivedPair := by
  have hmark : s.markDirty bs = (s.setFlags bs).derivePair := by
    cases bs with
    | nil => exact absurd rfl hne
    | cons => rfl
  have hmap : (s.markDirty bs).map = bs.foldl DirtyMap.set s.map := by
    rw [hmark, State.derivePair_map, State.setFlags_map bs s hrole]
  refine ⟨?_, ?_⟩
  · rw [← hmap]
    exact s.markDirty_frame bs
  · rw [hmark]
    exact State.derivePair_derived

/-- R61: the sweep after a claim is given back. -/
def State.sweepReleased (s : State) : Sweep :=
  if s.host.claim ∧ s.sweep.state = .waiting ∧ s.params.journalReserve < 256 - s.journal.records.length then
    { s.sweep with state := .copying, request := true }
  else s.sweep

/-- R32, R48: outside SPACE_WAIT a claim given back reaches the sweep only. -/
theorem State.sweepRise_eq (hclaim : s.host.claim = false) :
    s.sweepRise = { s with sweep :=
      if s.sweep.state = .waiting ∧ s.params.journalReserve < 256 - s.journal.records.length then
        { s.sweep with state := .copying, request := true }
      else s.sweep } := by
  have hslots : s.freeSlots = 256 - s.journal.records.length := by
    simp [State.freeSlots, Config.journalSlots, hclaim]
  unfold State.sweepRise
  rw [hslots]
  split <;> rfl

theorem State.releaseClaim_eq (hwait : s.host.state ≠ .spaceWait) :
    s.releaseClaim = { s with host := { s.host with claim := false }, sweep := s.sweepReleased } := by
  unfold State.releaseClaim State.sweepReleased
  cases hclaim : s.host.claim with
  | true =>
    rw [if_pos rfl, State.announceRise_of_not_waiting { s with host := { s.host with claim := false } } hwait,
      State.sweepRise_eq (s := { s with host := { s.host with claim := false } }) rfl]
    simp
  | false =>
    have hhost : { s.host with claim := false } = s.host := by rw [← hclaim]
    simp [hhost]

/-- The memory port with the arbiter's counts of the role and the host's transaction started (R13, R19, R20). -/
def State.memGranted (s : State) (t : BusTxn) : MemPort :=
  { use := some { owner := .host, txn := t, limit := s.params.memLimit },
    sweepWait := if s.role = .primary ∧ s.sweep.request then s.mem.sweepWait + 1 else s.mem.sweepWait,
    applyRun := if s.role = .replica ∨ s.role = .promoting then 0 else s.mem.applyRun }

/-- The arbiter's counts at a grant to the host port. -/
theorem State.countHostGrant_mem :
    s.countHostGrant.mem = { s.mem with
      sweepWait := if s.role = .primary ∧ s.sweep.request then s.mem.sweepWait + 1 else s.mem.sweepWait,
      applyRun := if s.role = .replica ∨ s.role = .promoting then 0 else s.mem.applyRun } := by
  unfold State.countHostGrant
  cases hrole : s.role with
  | standalone => simp
  | primary => cases s.sweep.request <;> simp
  | replica => simp
  | promoting => simp

theorem State.countHostGrant_eq (s : State) : s.countHostGrant = { s with mem := s.countHostGrant.mem } := by
  rw [State.countHostGrant_mem]
  conv => lhs; rw [State.countHostGrant_frame, State.countHostGrant_mem]

/-- An arrival the port takes is classified (R6). -/
theorem exec_arrival (hs : s.Runs) (hready : s.hostReady = true) (t : BusTxn) :
    exec (.arrival t) s = .next (State.classify t { s with host := { HostPort.idle with txn := some t } }) := by
  change execArrival t s = _
  rw [execArrival, State.awake_of_runs hs, if_pos hready]

/-- A grant made is counted and settled (R13). -/
theorem exec_hostGrant {t : BusTxn} (hs : s.Runs) (htxn : s.host.txn = some t) (hgrant : s.hostGrantable = true) :
    exec .hostGrant s = .next (s.countHostGrant.settleGrant t) := by
  change execHostGrant s = _
  rw [execHostGrant, State.awake_of_runs hs]
  simp only [htxn]
  rw [if_pos hgrant]

theorem State.portWait_of_grantable (hgrant : s.hostGrantable = true) : s.host.state ≠ .spaceWait := by
  obtain ⟨hstate, -, -⟩ := State.of_hostGrantable hgrant
  simp [hstate]

/-- R13: the arbiter's counts, and the claim given back. -/
theorem State.releaseClaim_granted (hgrant : s.hostGrantable = true) :
    s.countHostGrant.releaseClaim =
      { s with host := { s.host with claim := false }, mem := s.countHostGrant.mem, sweep := s.sweepReleased } := by
  have hwait := State.portWait_of_grantable hgrant
  have hcounted := s.countHostGrant_eq
  generalize s.countHostGrant.mem = m at hcounted ⊢
  rw [hcounted]
  exact State.releaseClaim_eq (s := { s with mem := m }) hwait

/-- R13: the claim given back and the transaction started at memory. -/
theorem State.forward_granted (hgrant : s.hostGrantable = true) (t : BusTxn) :
    s.countHostGrant.releaseClaim.forward t =
      { s with host := { s.host with state := .inMemory, claim := false }, mem := s.memGranted t, sweep := s.sweepReleased } := by
  rw [State.releaseClaim_granted hgrant, State.countHostGrant_mem]
  rfl

/-! ## Pass-through traffic (R6, R9, R13) -/

theorem State.classify_free {t : BusTxn} (hfree : s.role = .standalone ∨ s.touchedMirrored t = []) :
    s.classify t = s.toPortWait false := by
  unfold State.classify
  cases hrole : s.role with
  | standalone => rfl
  | primary => simp [hfree.resolve_left (by simp [hrole])]
  | replica => simp [hfree.resolve_left (by simp [hrole])]
  | promoting => simp [hfree.resolve_left (by simp [hrole])]

theorem State.settleGrant_free {t : BusTxn} (hfree : s.role = .standalone ∨ s.touchedMirrored t = []) :
    s.settleGrant t = s.releaseClaim.forward t := by
  unfold State.settleGrant
  cases hrole : s.role with
  | standalone => rfl
  | primary => simp [hfree.resolve_left (by simp [hrole])]
  | replica => simp [hfree.resolve_left (by simp [hrole])]
  | promoting => simp [hfree.resolve_left (by simp [hrole])]

/-- Settles O23: both classifications let the transaction through. -/
theorem passThroughReachesMemory : Obligations.PassThroughReachesMemory := by
  intro s t hs hfree
  refine ⟨fun hready => ?_, fun htxn hgrant => ?_⟩
  · rw [exec_arrival hs hready, State.classify_free (s := { s with host := { HostPort.idle with txn := some t } }) hfree]
    rfl
  · have hcounted : s.countHostGrant.role = .standalone ∨ s.countHostGrant.touchedMirrored t = [] := by
      rwa [State.countHostGrant_role, State.countHostGrant_touched]
    rw [exec_hostGrant hs htxn hgrant, State.settleGrant_free hcounted, State.forward_granted hgrant]
    rfl

/-! ## Refusals (R7, R8) -/

theorem State.classify_fenced {t : BusTxn} (hrole : s.role = .replica ∨ s.role = .promoting) (htouched : s.touchedMirrored t ≠ []) :
    s.classify t = s.refuseFenced := by
  obtain ⟨b, bs, hcons⟩ := List.exists_cons_of_ne_nil htouched
  unfold State.classify
  rcases hrole with hrole | hrole
  · simp [hrole, hcons]
  · simp [hrole, hcons]

theorem State.settleGrant_fenced {t : BusTxn} (hrole : s.role = .replica ∨ s.role = .promoting) (htouched : s.touchedMirrored t ≠ []) :
    s.settleGrant t = s.refuseFenced := by
  obtain ⟨b, bs, hcons⟩ := List.exists_cons_of_ne_nil htouched
  unfold State.settleGrant
  rcases hrole with hrole | hrole
  · simp [hrole, hcons]
  · simp [hrole, hcons]

theorem State.classify_misaligned {t : BusTxn} (hrole : s.role = .primary) (htouched : s.touchedMirrored t ≠ [])
    (hmis : misalignedLineWrite t = true) : s.classify t = s.refuseMisaligned := by
  obtain ⟨b, bs, hcons⟩ := List.exists_cons_of_ne_nil htouched
  simp [State.classify, hrole, hcons, hmis]

/-- Settles O24: the role's row of Table 1.3, at the arrival and at the grant. -/
theorem refusedWritesAnswerFault : Obligations.RefusedWritesAnswerFault := by
  intro s t hs htouched
  refine ⟨fun hrole hmis hready => ?misaligned, fun hrole => ⟨fun hready => ?fenced, fun htxn hgrant => ?granted⟩⟩
  case misaligned =>
    rw [exec_arrival hs hready, State.classify_misaligned (s := { s with host := { HostPort.idle with txn := some t } }) hrole htouched hmis]
    rfl
  case fenced =>
    rw [exec_arrival hs hready, State.classify_fenced (s := { s with host := { HostPort.idle with txn := some t } }) hrole htouched]
    rfl
  case granted =>
    have hcounted : s.countHostGrant.role = .replica ∨ s.countHostGrant.role = .promoting := by rwa [State.countHostGrant_role]
    have hmem : s.countHostGrant.mem = { s.mem with applyRun := 0 } := by
      rw [State.countHostGrant_mem, if_pos hrole]
      rcases hrole with hrole | hrole <;> simp [hrole]
    rw [exec_hostGrant hs htxn hgrant, State.settleGrant_fenced hcounted (by rwa [State.countHostGrant_touched]), State.countHostGrant_eq, hmem]
    rfl

/-! ## Admission (R10) -/

/-- R61: the sweep told of a claim taken withdraws a request that has no margin left. -/
theorem State.sweepFall_eq (hclaim : s.host.claim = true) :
    s.sweepFall =
      if s.sweep.request ∧ 255 - s.journal.records.length ≤ s.params.journalReserve then
        { s with sweep := { s.sweep with state := .waiting, request := false }, mem := { s.mem with sweepWait := 0 } }
      else s := by
  have hslots : s.freeSlots = 255 - s.journal.records.length := by
    simp only [State.freeSlots, Config.journalSlots, hclaim, if_true]
    omega
  rw [State.sweepFall, hslots]

/-- R10: whether a write to a block needs the journal, in the obligation's words. -/
theorem State.needsJournal_iff (b : Block) :
    s.needsJournal b = true ↔ s.link.state = .up ∧ (b ∈ s.map.flags → ∃ c, s.sweep.copy = some c ∧ c.block = b) := by
  have hcopy : s.inCopy b = true ↔ ∃ c, s.sweep.copy = some c ∧ c.block = b := by
    simp [State.inCopy, Option.any_eq_true]
  have hdirty : s.isDirty b = true ↔ b ∈ s.map.flags := List.contains_iff_mem
  rw [State.needsJournal, Bool.and_eq_true, ← hcopy, ← hdirty, State.linkUp]
  cases s.isDirty b <;> cases s.inCopy b <;> simp

theorem State.classify_admitted {t : BusTxn} {b : Block} {bs : List Block} (hrole : s.role = .primary)
    (htouched : s.touchedMirrored t = b :: bs) (halign : misalignedLineWrite t = false) : s.classify t = s.admitWrite t b := by
  simp [State.classify, hrole, htouched, halign]

section
variable {n : NotedBlock} {l : LineIndex}

theorem State.admission_noJournal (h : s.needsJournal n.block = false) : s.admission n l = .noJournal := by
  simp [State.admission, h]

theorem State.admission_claim (h : s.needsJournal n.block = true) (hfree : 1 ≤ s.freeSlots) : s.admission n l = .claim := by
  simp [State.admission, h, hfree]

theorem State.admission_merge (h : s.needsJournal n.block = true) (hfull : s.freeSlots = 0) (htail : s.journal.tailMerges l = true) :
    s.admission n l = .merge := by
  simp [State.admission, h, hfull, htail]

theorem State.admission_mark (h : s.needsJournal n.block = true) (hfull : s.freeSlots = 0) (htail : s.journal.tailMerges l = false)
    (hpolicy : n.policy = .mark) : s.admission n l = .mark := by
  simp [State.admission, h, hfull, htail, hpolicy]

theorem State.admission_wait (h : s.needsJournal n.block = true) (hfull : s.freeSlots = 0) (htail : s.journal.tailMerges l = false)
    (hpolicy : n.policy = .stall) : s.admission n l = .wait := by
  simp [State.admission, h, hfull, htail, hpolicy]

end

/-- The host port notes the block of a write (R10). -/
def State.noteBlock (s : State) (b : Block) : State := { s with host := { s.host with noted := some (s.note b) } }

section
variable {t : BusTxn} {b : Block}

theorem State.admitWrite_noJournal (h : s.admission (s.note b) (s.txnLine t) = .noJournal) :
    s.admitWrite t b = (s.noteBlock b).toPortWait false := by
  simp only [State.admitWrite, h, State.noteBlock]

theorem State.admitWrite_claim (h : s.admission (s.note b) (s.txnLine t) = .claim) :
    s.admitWrite t b = ((s.noteBlock b).toPortWait true).sweepFall := by
  simp only [State.admitWrite, h, State.noteBlock]

theorem State.admitWrite_merge (h : s.admission (s.note b) (s.txnLine t) = .merge) :
    s.admitWrite t b = (s.noteBlock b).toPortWait false := by
  simp only [State.admitWrite, h, State.noteBlock]

theorem State.admitWrite_mark (h : s.admission (s.note b) (s.txnLine t) = .mark) :
    s.admitWrite t b = (((s.noteBlock b).toPortWait false).bump .overflowMarks).markDirty [b] := by
  simp only [State.admitWrite, h, State.noteBlock]

theorem State.admitWrite_wait (h : s.admission (s.note b) (s.txnLine t) = .wait) :
    s.admitWrite t b =
      { s.noteBlock b with host := { (s.noteBlock b).host with state := .spaceWait, timer := some s.params.holdLimit } } := by
  simp only [State.admitWrite, h, State.noteBlock]

end

/-- A write presented to an IDLE port, before its classification. -/
def State.presented (s : State) (t : BusTxn) : State := { s with host := { HostPort.idle with txn := some t } }

theorem State.presented_freeSlots (s : State) (t : BusTxn) : (s.presented t).freeSlots = 256 - s.journal.records.length := rfl

/-- R10: with no free slot, the outcomes 3 to 5. -/
theorem State.admitWrite_full {t : BusTxn} {b : Block} (hrole : s.role = .primary) (hneed : (s.presented t).needsJournal b = true)
    (hfull : 256 ≤ s.journal.records.length) :
    (s.journal.tailMerges (s.txnLine t) = true → (s.presented t).admitWrite t b = { s with host := s.admittedPort t b }) ∧
    (s.journal.tailMerges (s.txnLine t) = false →
      (blockPolicy s.regions b = .mark → ∃ u, (s.presented t).admitWrite t b = u ∧
        u = { s with host := s.admittedPort t b, map := s.map.set b, counters := s.counters.set 4 (saturatingSucc s.counters[4]),
                     sweep := u.sweep, pair := u.pair, alert := u.alert } ∧ u.pair.state = u.derivedPair) ∧
      (blockPolicy s.regions b = .stall →
        (s.presented t).admitWrite t b =
          { s with host := { s.admittedPort t b with state := .spaceWait, timer := some s.params.holdLimit } })) := by
  have hnone : (s.presented t).freeSlots = 0 := by
    rw [State.presented_freeSlots]
    exact Nat.sub_eq_zero_of_le hfull
  refine ⟨fun htail => ?merge, fun htail => ⟨fun hpolicy => ?mark, fun hpolicy => ?wait⟩⟩
  case merge => exact State.admitWrite_merge (State.admission_merge (n := (s.presented t).note b) hneed hnone htail)
  case wait => exact State.admitWrite_wait (State.admission_wait (n := (s.presented t).note b) hneed hnone htail hpolicy)
  case mark =>
    have hmark := State.admitWrite_mark (State.admission_mark (n := (s.presented t).note b) hneed hnone htail hpolicy)
    obtain ⟨hframe, hpair⟩ := State.markDirty_on_primary
      (s := (((s.presented t).noteBlock b).toPortWait false).bump .overflowMarks) (bs := [b]) hrole (by simp)
    rw [← hmark] at hframe hpair
    exact ⟨_, rfl, hframe, hpair⟩

/-- Settles O25: the outcomes of the admission test one by one. -/
theorem admissionTakesTheFirstOutcome : Obligations.AdmissionTakesTheFirstOutcome := by
  intro s t b bs hs hready hrole halign htouched
  dsimp only
  have hneeds := State.needsJournal_iff (s := s.presented t) b
  have hexec : exec (.arrival t) s = .next ((s.presented t).admitWrite t b) := by
    rw [exec_arrival hs hready, ← State.classify_admitted (s := s.presented t) hrole htouched halign]
    rfl
  rw [hexec]
  refine ⟨fun hno => ?none, fun hneed hfree => ?claim, fun hneed hfull => ?full⟩
  case none =>
    have hadm := State.admission_noJournal (s := s.presented t) (n := (s.presented t).note b) (l := (s.presented t).txnLine t)
      (Bool.eq_false_iff.mpr (mt hneeds.mp hno))
    rw [State.admitWrite_noJournal hadm]
    rfl
  case claim =>
    have hadm := State.admission_claim (s := s.presented t) (n := (s.presented t).note b) (l := (s.presented t).txnLine t)
      (hneeds.mpr hneed) (by rw [State.presented_freeSlots]; omega)
    rw [State.admitWrite_claim hadm, State.sweepFall_eq rfl]
    rfl
  case full =>
    obtain ⟨hmerge, hrest⟩ := State.admitWrite_full hrole (hneeds.mpr hneed) hfull
    refine ⟨fun htail => congrArg _ (hmerge htail), fun htail => ?_⟩
    obtain ⟨hmark, hwait⟩ := hrest htail
    refine ⟨fun hpolicy => ?_, fun hpolicy => congrArg _ (hwait hpolicy)⟩
    obtain ⟨u, hu, hframe, hpair⟩ := hmark hpolicy
    exact ⟨u, congrArg _ hu, hframe, hpair⟩

/-! ## INIT (R22) -/

theorem exec_init (hs : s.Runs) : exec .init s = .next s.abandon := by
  change execInit s = _
  rw [execInit, State.awake_of_runs hs]

/-- Settles O26, state by state. -/
theorem initAbandonsByState : Obligations.InitAbandonsByState := by
  intro s hs
  rw [exec_init hs]
  refine ⟨fun hstate => ?idle, fun hstate => ?spaceWait, fun hstate => ?portWait, fun hstate u huse hown => ?inMemory, fun hstate => ?hold⟩
  case idle => simp [State.abandon, hstate]
  case spaceWait => simp [State.abandon, hstate, State.dropHost]
  case portWait =>
    have hdrop : s.dropHost.host.state ≠ .spaceWait := by simp [State.dropHost, HostPort.idle]
    unfold State.abandon
    simp only [hstate]
    cases hclaim : s.host.claim with
    | true =>
      rw [if_pos rfl, State.announceRise_of_not_waiting _ hdrop, State.sweepRise_eq rfl]
      simp only [true_and]
      rfl
    | false => simp [State.dropHost]
  case inMemory =>
    unfold State.abandon
    simp only [hstate]
    cases hbound : s.host.bound with
    | true => simp [State.dropHost, State.clearWaiter, huse, hown]
    | false => simp [State.dropHost, huse, hown]
  case hold => simp [State.abandon, hstate, State.dropHost, State.clearWaiter]

/-! ## The ends at memory (R9, R15, R17) -/

/-- Settles O28, by the owner of the memory port's use. -/
theorem memoryCompletionAnswersOrHolds : Obligations.MemoryCompletionAnswersOrHolds := by
  intro s u data hs huse
  have hexec : exec (.hostMemoryCompletion data) s = execHostMemoryCompletion data s := rfl
  rw [hexec, execHostMemoryCompletion, State.awake_of_runs hs]
  simp only [huse]
  refine ⟨fun hown hbound => ?held, fun hown hbound => ?done, fun hown => ?abandoned⟩
  case held => simp [hown, State.completeHost, State.freePort, hbound]
  case done =>
    simp only [hown, State.completeHost, State.freePort, hbound]
    cases haccess : u.txn.access <;> simp [State.answer, doneAnswer, haccess]
  case abandoned => simp [hown, State.freePort]

theorem State.markDirty_cause {c : AlertCause} (hm : .pairMirrored ≠ c) (hd : .pairDegraded ≠ c) (bs : List Block) :
    (s.markDirty bs).cause c = s.cause c := by
  unfold State.markDirty
  split
  · rfl
  · rw [State.derivePair_cause hm hd]
    simp [State.cause]

/-- R17: what a timeout leaves, whoever owned the transaction. -/
theorem State.hostTimeout_leaves (t : BusTxn) :
    s.hostTimeout t =
        { s with counters := s.counters.set 7 (saturatingSucc s.counters[7]),
                 map := if s.role = .primary then (s.touchedMirrored t).foldl DirtyMap.set s.map else s.map,
                 sweep := (s.hostTimeout t).sweep, pair := (s.hostTimeout t).pair, alert := (s.hostTimeout t).alert } ∧
      (s.hostTimeout t).cause .memoryTimeout = (s.cause .memoryTimeout).occur ∧
      (s.role ≠ .primary ∨ s.touchedMirrored t = [] →
        (s.hostTimeout t).sweep = s.sweep ∧ (s.hostTimeout t).pair = s.pair ∧
          (s.hostTimeout t).alert = (s.report .memoryTimeout).alert) ∧
      (s.role = .primary → s.touchedMirrored t ≠ [] → (s.hostTimeout t).pair.state = (s.hostTimeout t).derivedPair) := by
  have hcause : ((s.bump .memoryTimeouts).report .memoryTimeout).cause .memoryTimeout = (s.cause .memoryTimeout).occur :=
    State.report_cause_same _ _
  by_cases hnone : s.role ≠ .primary ∨ s.touchedMirrored t = []
  · have hleft : s.hostTimeout t = (s.bump .memoryTimeouts).report .memoryTimeout := by
      unfold State.hostTimeout
      rcases hnone with hrole | htouched
      · exact if_neg hrole
      · dsimp only
        split
        · exact congrArg (fun bs => State.markDirty bs _) htouched
        · rfl
    have hmap : (if s.role = .primary then (s.touchedMirrored t).foldl DirtyMap.set s.map else s.map) = s.map := by
      rcases hnone with hrole | htouched
      · rw [if_neg hrole]
      · rw [htouched]
        exact ite_self _
    rw [hleft, hmap]
    exact ⟨rfl, hcause, fun _ => ⟨rfl, rfl, rfl⟩, fun hrole htouched => (hnone.elim (· hrole) htouched).elim⟩
  · obtain ⟨hrole, htouched⟩ := not_or.mp hnone
    rw [Classical.not_not] at hrole
    have hleft : s.hostTimeout t = ((s.bump .memoryTimeouts).report .memoryTimeout).markDirty (s.touchedMirrored t) := if_pos hrole
    obtain ⟨hframe, hpair⟩ := State.markDirty_on_primary (s := (s.bump .memoryTimeouts).report .memoryTimeout) hrole htouched
    rw [hleft, if_pos hrole]
    refine ⟨hframe, ?_, fun h => absurd h hnone, fun _ _ => hpair⟩
    rw [State.markDirty_cause (by decide) (by decide), hcause]

/-- Settles O29: the port is freed and answered first, and then the timeout's effects. -/
theorem memoryTimeoutAnswersFault : Obligations.MemoryTimeoutAnswersFault := by
  intro s u hs huse howner
  have hexec : exec .hostMemoryTimeout s = execHostMemoryTimeout s := rfl
  rw [hexec, execHostMemoryTimeout, State.awake_of_runs hs]
  simp only [huse]
  rcases howner with hown | hown
  · simp only [hown]
    cases hbound : s.host.bound with
    | true => exact ⟨_, rfl, State.hostTimeout_leaves (s := s.clearWaiter.freePort.answer .fault) u.txn⟩
    | false => exact ⟨_, rfl, State.hostTimeout_leaves (s := s.freePort.answer .fault) u.txn⟩
  · simp only [hown]
    exact ⟨_, rfl, State.hostTimeout_leaves (s := s.freePort) u.txn⟩

/-! ## The expiries of HOLD_LIMIT (R12, R16) -/

/-- Settles O30: in each wait its expiry, and outside it nothing. -/
theorem holdLimitExpiryEndsTheWait : Obligations.HoldLimitExpiryEndsTheWait := by
  intro s hs
  have hspace : exec .spaceWaitExpiry s = execSpaceWaitExpiry s := rfl
  have hsync : exec .syncHoldExpiry s = execSyncHoldExpiry s := rfl
  rw [hspace, hsync, execSpaceWaitExpiry, execSyncHoldExpiry, State.awake_of_runs hs, State.awake_of_runs hs]
  refine ⟨fun n hstate hnoted hrole => ?space, fun hstate => ?noSpace, fun hstate => ?hold, fun hstate => ?noHold⟩
  case space =>
    obtain ⟨hframe, hpair⟩ := State.markDirty_on_primary (s := State.bump .stallTimeouts (s.toPortWait false)) (bs := [n.block]) hrole
      (by simp)
    refine ⟨_, ?_, hframe, hpair⟩
    simp only [hstate, hnoted]
  case noSpace =>
    split
    · next hwait _ => exact absurd hwait hstate
    · rfl
  case hold =>
    simp only [hstate]
    rfl
  case noHold =>
    split
    · next hheld => exact absurd hheld hstate
    · rfl

/-! ## The grant of a primary mirrored write (R13, R14, R34, R35) -/

theorem State.memGranted_primary (hrole : s.role = .primary) (t : BusTxn) :
    s.memGranted t =
      { use := some { owner := .host, txn := t, limit := s.params.memLimit },
        sweepWait := if s.sweep.request then s.mem.sweepWait + 1 else s.mem.sweepWait, applyRun := s.mem.applyRun } := by
  simp [State.memGranted, hrole]

theorem State.memGranted_eq (t : BusTxn) :
    s.memGranted t = { s.countHostGrant.mem with use := some { owner := .host, txn := t, limit := s.params.memLimit } } := by
  rw [State.countHostGrant_mem]
  rfl

theorem State.countHostGrant_writePath (t : BusTxn) (b : Block) : s.countHostGrant.writePath t b = s.writePath t b := by
  rw [State.countHostGrant_frame]
  rfl

/-- The paths of a grant that make blocks dirty, and the forward that follows. -/
theorem State.forward_marked {bs : List Block} (hrole : s.role = .primary) (hgrant : s.hostGrantable = true) (hne : bs ≠ [])
    (t : BusTxn) :
    ∃ u, (s.countHostGrant.releaseClaim.markDirty bs).forward t = u ∧
      u = { s with host := { s.host with state := .inMemory, claim := false }, mem := s.memGranted t,
                   map := bs.foldl DirtyMap.set s.map, sweep := u.sweep, pair := u.pair, alert := u.alert } ∧
      u.pair.state = u.derivedPair := by
  rw [State.releaseClaim_granted hgrant, State.memGranted_eq]
  obtain ⟨hframe, hpair⟩ := State.markDirty_on_primary
    (s := { s with host := { s.host with claim := false }, mem := s.countHostGrant.mem, sweep := s.sweepReleased }) hrole hne
  generalize State.markDirty bs _ = v at hframe hpair ⊢
  refine ⟨v.forward t, rfl, ?_, hpair⟩
  conv => lhs; rw [hframe]
  rfl

theorem State.settleGrant_misaligned {t : BusTxn} {b : Block} {bs : List Block} (hrole : s.role = .primary)
    (htouched : s.touchedMirrored t = b :: bs) (hmis : misalignedLineWrite t = true) :
    s.settleGrant t = (s.releaseClaim.markDirty (b :: bs)).forward t := by
  simp [State.settleGrant, hrole, htouched, hmis]

theorem State.settleGrant_aligned {t : BusTxn} {b : Block} {bs : List Block} (hrole : s.role = .primary)
    (htouched : s.touchedMirrored t = b :: bs) (halign : misalignedLineWrite t = false) :
    s.settleGrant t = (s.settlePath t b).forward t := by
  simp [State.settleGrant, hrole, htouched, halign]

/-- Table 1.6's first condition in the obligation's words. -/
theorem State.dirty_iff {b : Block} :
    (s.isDirty b && !s.inCopy b) = true ↔ b ∈ s.map.flags ∧ ∀ c, s.sweep.copy = some c → c.block ≠ b := by
  have hcopy : s.inCopy b = true ↔ ∃ c, s.sweep.copy = some c ∧ c.block = b := by
    simp [State.inCopy, Option.any_eq_true]
  have hdirty : s.isDirty b = true ↔ b ∈ s.map.flags := List.contains_iff_mem
  rw [Bool.and_eq_true, Bool.not_eq_true', ← Bool.not_eq_true, hcopy, hdirty]
  simp

theorem changeLast_length (f : Record → Record) (rs : List Record) : (changeLast f rs).length = rs.length := by
  have h := congrArg List.length (map_changeLast (f := fun _ => ()) (g := f) (fun _ => rfl) rs)
  simpa using h

section
variable {t : BusTxn}

/-- R35: the tail takes the write. -/
theorem State.forward_merged (bound : Bool) (hgrant : s.hostGrantable = true) :
    (State.releaseClaim
        { s.countHostGrant.changeTail (Record.merge t bound) with host := { s.host with bound := bound } }).forward t =
      { s with host := { s.host with state := .inMemory, claim := false, bound := bound }, mem := s.memGranted t, sweep := s.sweepReleased,
               journal := { s.journal with records := changeLast (Record.merge t bound) s.journal.records } } := by
  have hwait := State.portWait_of_grantable hgrant
  have hcounted := s.countHostGrant_eq
  rw [State.memGranted_eq]
  generalize s.countHostGrant.mem = m at hcounted ⊢
  rw [hcounted, State.releaseClaim_eq (s := { State.changeTail (Record.merge t bound) { s with mem := m } with
    host := { s.host with bound := bound } }) hwait]
  simp only [State.sweepReleased, State.changeTail, changeLast_length]
  rfl

end

section
variable {t : BusTxn} {b : Block}

theorem State.writePath_dirty (hdirty : (s.isDirty b && !s.inCopy b) = true) : s.writePath t b = .dirty := by
  simp only [State.writePath, hdirty, if_true]

theorem State.writePath_degraded (hclean : ¬(s.isDirty b && !s.inCopy b) = true) (hdown : s.link.state ≠ .up) :
    s.writePath t b = .degraded := by
  rw [State.writePath, if_neg hclean, if_pos (by simpa [State.linkUp] using hdown)]

/-- The rows that ask for the link UP, the tail and the claim in turn. -/
theorem State.writePath_up (hclean : ¬(s.isDirty b && !s.inCopy b) = true) (hup : s.link.state = .up) :
    s.writePath t b = if s.journal.tailMerges (s.txnLine t) then .coalesce else if s.host.claim then .append else .marked := by
  rw [State.writePath, if_neg hclean, if_neg (by simp [State.linkUp, hup])]

end

/-- R31, R34: a claim used up for a record at the tail. -/
theorem State.forward_appended (t : BusTxn) (bound : Bool) :
    ∃ u v : State,
      u = { s with
        host := { s.host with claim := false, bound := bound }, mem := s.countHostGrant.mem,
        journal := { s.journal with records := s.journal.records ++ [lineRecord (s.txnLine t) t bound] } } ∧
      v = u.waterTest.kick ∧
      (State.waterTest { s.countHostGrant.appendRecord (lineRecord (s.txnLine t) t bound) with
        host := { s.host with claim := false, bound := bound } }).kick.forward t =
        { v with host := { v.host with state := .inMemory }, mem := s.memGranted t } := by
  refine ⟨_, _, rfl, rfl, ?_⟩
  rw [State.memGranted_eq]
  have hcounted := s.countHostGrant_eq
  generalize s.countHostGrant.mem = m at hcounted ⊢
  rw [hcounted]
  simp [State.forward, State.startMemory, State.appendRecord]

/-- Settles O27, path by path of Table 1.6. -/
theorem grantedWriteTakesItsPath : Obligations.GrantedWriteTakesItsPath := by
  intro s t b bs hs hrole htxn hgrant htouched
  dsimp only
  have hrole' : s.countHostGrant.role = .primary := by rwa [State.countHostGrant_role]
  have htouched' : s.countHostGrant.touchedMirrored t = b :: bs := by rwa [State.countHostGrant_touched]
  rw [exec_hostGrant hs htxn hgrant, ← State.memGranted_primary hrole]
  refine ⟨fun hmis => ?misaligned, fun halign => ?aligned⟩
  case misaligned =>
    rw [State.settleGrant_misaligned hrole' htouched' hmis]
    obtain ⟨u, hu, hframe, hpair⟩ := State.forward_marked hrole hgrant (List.cons_ne_nil b bs) t
    exact ⟨u, congrArg _ hu, hframe, hpair⟩
  case aligned =>
    rw [State.settleGrant_aligned hrole' htouched' halign]
    have hpath := s.countHostGrant_writePath t b
    have hbinds : s.countHostGrant.binds b = s.binds b := by
      rw [State.countHostGrant_frame]
      rfl
    have hhost : s.countHostGrant.host = s.host := by rw [State.countHostGrant_frame]
    have hline : s.countHostGrant.txnLine t = s.txnLine t := by
      rw [State.countHostGrant_frame]
      rfl
    rw [← State.dirty_iff]
    refine ⟨fun hdirty => ?dirty, fun hclean hdown => ?degraded, fun hclean hup htail => ?merged,
      fun hclean hup htail hclaim => ?appended, fun hclean hup htail hclaim => ?marked⟩
    case dirty =>
      have hsettled : s.countHostGrant.settlePath t b = s.countHostGrant.releaseClaim := by
        simp only [State.settlePath, hpath, State.writePath_dirty hdirty]
      rw [hsettled]
      exact congrArg _ (State.forward_granted hgrant t)
    case degraded =>
      have hsettled : s.countHostGrant.settlePath t b = s.countHostGrant.releaseClaim.markDirty [b] := by
        simp only [State.settlePath, hpath, State.writePath_degraded hclean hdown]
      obtain ⟨u, hu, hframe, hpair⟩ := State.forward_marked hrole hgrant (List.cons_ne_nil b []) t
      exact ⟨u, by rw [hsettled, hu], hframe, hpair⟩
    case merged =>
      have hrow : s.writePath t b = .coalesce := by rw [State.writePath_up hclean hup, if_pos (by exact htail)]
      have hsettled : s.countHostGrant.settlePath t b = State.releaseClaim
          { s.countHostGrant.changeTail (Record.merge t (s.binds b)) with host := { s.host with bound := s.binds b } } := by
        simp only [State.settlePath, hpath, hrow, hbinds, hhost]
      rw [hsettled]
      exact congrArg _ (State.forward_merged (s.binds b) hgrant)
    case appended =>
      have hrow : s.writePath t b = .append := by rw [State.writePath_up hclean hup, if_neg (by exact htail), if_pos hclaim]
      have hsettled : s.countHostGrant.settlePath t b =
          (State.waterTest { s.countHostGrant.appendRecord (lineRecord (s.txnLine t) t (s.binds b)) with
            host := { s.host with claim := false, bound := s.binds b } }).kick := by
        simp only [State.settlePath, hpath, hrow, hbinds, hhost, hline]
      obtain ⟨u, v, hu, hv, hforward⟩ := State.forward_appended (s := s) t (s.binds b)
      refine ⟨u, v, ?_, hv, by rw [hsettled, hforward]⟩
      have hmem : s.countHostGrant.mem = { s.mem with sweepWait := (s.memGranted t).sweepWait } := by
        rw [State.countHostGrant_mem]
        simp [State.memGranted, hrole]
      rw [hu, hmem, State.memGranted_primary hrole]
      rfl
    case marked =>
      have hrow : s.writePath t b = .marked := by
        rw [State.writePath_up hclean hup, if_neg (by exact htail), if_neg (by simp [hclaim])]
      have hsettled : s.countHostGrant.settlePath t b = s.countHostGrant.releaseClaim.markDirty [b] := by
        rw [State.releaseClaim_of_no_claim (by rw [hhost, hclaim])]
        simp only [State.settlePath, hpath, hrow]
      obtain ⟨u, hu, hframe, hpair⟩ := State.forward_marked hrole hgrant (List.cons_ne_nil b []) t
      exact ⟨u, by rw [hsettled, hu], hframe, hpair⟩

end

end Sys2Proof.Machine

/-! PROOF. The repair sweep's course (R60 to R70): the selection, the ends of a line read, and the two commands. -/

namespace Sys2Proof.Machine

open Sys2Proof

set_option Elab.async false

section
variable {s : State}

/-! ## Said once: what the shared operations leave while the sweep is not IDLE -/

theorem State.autoStart_of_not_idle (hstate : s.sweep.state ≠ .idle) : s.autoStart = s := by
  rw [State.autoStart, if_neg]
  rintro ⟨-, -, hidle, -⟩
  exact hstate hidle

theorem State.setFlags_of_not_idle (hrole : s.role = .primary) (hstate : s.sweep.state ≠ .idle) (bs : List Block) :
    s.setFlags bs = { s with map := bs.foldl DirtyMap.set s.map } := by
  rw [State.setFlags, if_neg (Classical.not_not.mpr hrole)]
  dsimp only
  rw [State.autoStart_of_not_idle (s := { s with map := bs.foldl DirtyMap.set s.map }) hstate, ite_self]

theorem State.remarkCopy_of_not_idle {c : Copy} (hrole : s.role = .primary) (hstate : s.sweep.state ≠ .idle)
    (hcopy : s.sweep.copy = some c) : s.remarkCopy = { s with map := s.map.set c.block } := by
  simp only [State.remarkCopy, hcopy]
  exact State.setFlags_of_not_idle hrole hstate [c.block]

/-- With no request standing, the test made again changes the host port alone. -/
theorem State.retestHost_of_no_request (hrequest : s.sweep.request = false) : s.retestHost = { s with host := s.retestHost.host } := by
  unfold State.retestHost
  split
  · split
    · rfl
    · rw [State.sweepFall, if_neg (by simp [State.toPortWait, hrequest])]
      rfl
    · rfl
    · rfl
    · rfl
  · rfl

/-- A free transmitter's choice touches nothing the pair state depends on. -/
theorem State.kick_derivedPair (s : State) : s.kick.derivedPair = s.derivedPair :=
  State.derivedPair_congr (by simp) (by simp) (by simp) (by simp) (by simp)

/-- R141: at the end of an event the pair state is the one Table 7.2 gives. -/
theorem State.finish_derived : s.finish.pair.state = s.finish.derivedPair := by
  rw [State.finish, State.kick_derivedPair, State.kick_pair]
  exact State.derivePair_derived

/-- The end of an event while the transmitter is busy. -/
theorem State.finish_of_busy (htx : s.link.tx.isSome = true) :
    s.finish = { s with pair := s.finish.pair, alert := s.finish.alert } := by
  have hbusy : s.finish = s.derivePair := by
    rw [State.finish, State.kick_of_busy _ (by simpa using htx)]
  rw [hbusy]
  exact s.derivePair_frame

/-! ## Selection (R60, R53) -/

/-- The distance from a cursor upward and around. -/
theorem toNat_sub_cursor (b cursor : Block) :
    (b - cursor).toNat = if cursor.toNat ≤ b.toNat then b.toNat - cursor.toNat else b.toNat + 65536 - cursor.toNat := by
  have hb := b.isLt
  have hc := cursor.isLt
  rw [BitVec.toNat_sub]
  split <;> omega

/-- The dirty block nearest above the cursor is the one a selection takes. -/
theorem DirtyMap.nextDirty_of_nearest {m : DirtyMap} {b : Block} (hrising : m.flags.Pairwise fun a c => a.toNat < c.toNat)
    (hb : b ∈ m.flags) (hnear : ∀ c ∈ m.flags, (b - m.cursor).toNat ≤ (c - m.cursor).toNat) : m.nextDirty = some b := by
  have hbound := b.isLt
  unfold DirtyMap.nextDirty
  split
  · next c hfind =>
    have hc := List.mem_of_find?_eq_some hfind
    obtain ⟨hat, before, after, hflags, hbefore⟩ := List.find?_eq_some_iff_append.mp hfind
    have hnearer := hnear c hc
    rw [toNat_sub_cursor, toNat_sub_cursor] at hnearer
    have hcursor : m.cursor.toNat ≤ c.toNat := by simpa using hat
    have hclt := c.isLt
    rw [if_pos hcursor] at hnearer
    have hle : m.cursor.toNat ≤ b.toNat ∧ b.toNat ≤ c.toNat := by
      split at hnearer <;> omega
    rw [hflags] at hb hrising
    rcases List.mem_append.mp hb with hin | hin
    · have hout := hbefore b hin
      simp [hle.1] at hout
    · rcases List.mem_cons.mp hin with rfl | hin
      · rfl
      · have hlt := (List.pairwise_cons.mp (List.pairwise_append.mp hrising).2.1).1 b hin
        omega
  · next hfind =>
    obtain ⟨first, rest, hflags⟩ := List.exists_cons_of_ne_nil (List.ne_nil_of_mem hb)
    have hbelow (c : Block) (hc : c ∈ m.flags) : ¬m.cursor.toNat ≤ c.toNat := by
      simpa using List.find?_eq_none.mp hfind c hc
    have hfirst : first ∈ m.flags := by simp [hflags]
    have hnearer := hnear first hfirst
    rw [toNat_sub_cursor, toNat_sub_cursor, if_neg (hbelow b hb), if_neg (hbelow first hfirst)] at hnearer
    rw [hflags] at hb hrising ⊢
    rcases List.mem_cons.mp hb with rfl | hin
    · rfl
    · have hlt := (List.pairwise_cons.mp hrising).1 b hin
      have hfb := hbelow first hfirst
      omega

theorem exec_selection {b : Block} (hs : s.Runs) (hstate : s.sweep.state = .scanning) (hb : s.map.nextDirty = some b) :
    exec .selection s = .next (s.select b).retestHost.finish := by
  change execSelection s = _
  rw [execSelection, State.awake_of_runs hs, if_pos hstate]
  simp only [hb]

theorem State.retestHost_copy : s.retestHost.sweep.copy = s.sweep.copy := by
  unfold State.retestHost
  split
  · split
    · rfl
    · exact State.sweepFall_copy
    · rfl
    · rfl
    · rfl
  · rfl

/-- R60, R61: the reserve test. -/
theorem State.reserveTest_eq (s : State) :
    s.reserveTest = { s with sweep := { s.sweep with
      state := if s.params.journalReserve < s.freeSlots then .copying else .waiting,
      request := Decidable.decide (s.params.journalReserve < s.freeSlots) } } := by
  unfold State.reserveTest
  split
  · next h => simp [h]
  · next h => simp [h]

/-- Settles O31: the nearest dirty block is the one taken, and the reserve test decides between WAITING and COPYING. -/
theorem selectionTakesTheNextDirtyBlock : Obligations.SelectionTakesTheNextDirtyBlock := by
  intro s b hs hstate hlaw hb hnear
  obtain ⟨-, hrising, -⟩ := hlaw.sound
  have hnext := DirtyMap.nextDirty_of_nearest hrising hb hnear
  refine ⟨_, exec_selection hs hstate hnext, ?map, ?copy, fun hmargin => ?waiting, fun hmargin hhost => ?copying, State.finish_derived,
    fun hhost htx => ?frame⟩
  case map => simp [State.select, DirtyMap.clear]
  case copy =>
    rw [State.finish_sweep, State.retestHost_copy]
    unfold State.select State.reserveTest
    split <;> rfl
  case waiting =>
    have hselected : (s.select b).sweep.state = .waiting ∧ (s.select b).sweep.request = false := by
      have hno : ¬s.params.journalReserve < s.freeSlots := Nat.not_lt.mpr hmargin
      rw [State.select, State.reserveTest_eq]
      exact ⟨if_neg hno, decide_eq_false hno⟩
    rw [State.finish_sweep, State.retestHost_of_no_request hselected.2]
    exact hselected
  case copying =>
    have hselected : (s.select b).sweep.state = .copying ∧ (s.select b).sweep.request = true := by
      rw [State.select, State.reserveTest_eq]
      exact ⟨if_pos hmargin, decide_eq_true hmargin⟩
    rw [State.finish_sweep, State.retestHost_of_not_waiting _ (by simpa [State.select] using hhost)]
    exact hselected
  case frame =>
    have hkept : (s.select b).retestHost = s.select b := State.retestHost_of_not_waiting _ (by simpa [State.select] using hhost)
    have hframe : s.select b = { s with map := (s.select b).map, sweep := { s.sweep with
        state := (s.select b).sweep.state, copy := (s.select b).sweep.copy, request := (s.select b).sweep.request } } := by
      unfold State.select State.reserveTest
      split <;> rfl
    have hbusy := State.finish_of_busy (s := s.select b) (by simpa [State.select] using htx)
    rw [hkept]
    generalize (s.select b).finish = u at hbusy ⊢
    have hmap : u.map = (s.select b).map := by rw [hbusy]
    have hsweep : u.sweep = (s.select b).sweep := by rw [hbusy]
    rw [hmap, hsweep]
    refine hbusy.trans ?_
    conv => lhs; rw [hframe]

/-! ## The ends of a line read (R38, R39, R63, R65, R68, R70) -/

theorem exec_sweepReadCompletion {c : Copy} (data : LineBytes) (hs : s.Runs) (hcopy : s.sweep.copy = some c)
    (hread : s.sweepReadInMemory true = true) :
    exec (.sweepReadCompletion data) s = .next (State.finish (State.retestHost
      (if s.sweep.stopPending then (s.readFilled data).stopCopy else (s.readFilled data).advanceCopy c))) := by
  change execSweepReadCompletion data s = _
  rw [execSweepReadCompletion, State.awake_of_runs hs]
  simp only [hcopy]
  rw [if_pos hread]
  rfl

/-- Settles O33, by the stop that is pending and by the line. -/
theorem sweepReadCompletionAdvances : Obligations.SweepReadCompletionAdvances := by
  intro s c data hs hrole hstate hcopy hread
  dsimp only
  rw [exec_sweepReadCompletion data hs hcopy hread]
  refine ⟨fun hstop => ?stopped, fun hgo hline => ?next, fun hgo hline => ?last⟩
  case stopped =>
    have hmarked : (s.readFilled data).remarkCopy = { s.readFilled data with map := s.map.set c.block } :=
      State.remarkCopy_of_not_idle (s := s.readFilled data) hrole (by simp [State.readFilled, State.endSweepRead, hstate])
        (by simpa [State.readFilled, State.endSweepRead] using hcopy)
    rw [if_pos hstop, State.stopCopy, hmarked]
    rfl
  case next =>
    rw [if_neg (by simp [hgo]), State.advanceCopy, if_neg hline]
    have hslots : State.freeSlots { s.readFilled data with sweep := { (s.readFilled data).sweep with copy := some { c with line := c.line + 1 } } }
        = s.freeSlots := by
      simp only [State.freeSlots, State.readFilled, State.fillPlaceholder, State.endSweepRead, List.length_map]
      rfl
    rw [State.reserveTest_eq, hslots]
    rfl
  case last =>
    rw [if_neg (by simp [hgo]), State.advanceCopy, if_pos hline]
    rfl

theorem exec_sweepReadTimeout (hs : s.Runs) (hread : s.sweepReadInMemory true = true) :
    exec .sweepReadTimeout s = .next
      (s.endSweepRead.withdrawPlaceholder.remarkCopy.afterReadTimeout s.sweep.stopPending).announceRise.waterTest.finish := by
  change execSweepReadTimeout s = _
  rw [execSweepReadTimeout, State.awake_of_runs hs, if_pos hread]

/-- R39, R65: the withdrawn placeholder's block and the copy's go back to the map. -/
theorem State.givenBack_eq {c : Copy} (hrole : s.role = .primary) (hstate : s.sweep.state = .copying) (hcopy : s.sweep.copy = some c) :
    s.endSweepRead.withdrawPlaceholder.remarkCopy =
      { s.endSweepRead with
        journal := { s.journal with records := s.journal.records.filter fun r => r.state != .filling },
        map := DirtyMap.set
          (((s.journal.records.filter fun r => r.state == .filling).filterMap Record.block?).foldl DirtyMap.set s.map) c.block } := by
  have hbusy : s.endSweepRead.sweep.state ≠ .idle := by simp [State.endSweepRead, hstate]
  have hwithdrawn : s.endSweepRead.withdrawPlaceholder =
      { s.endSweepRead with
        journal := { s.journal with records := s.journal.records.filter fun r => r.state != .filling },
        map := ((s.journal.records.filter fun r => r.state == .filling).filterMap Record.block?).foldl DirtyMap.set s.map } :=
    State.setFlags_of_not_idle (s := { s.endSweepRead with
      journal := { s.journal with records := s.journal.records.filter fun r => r.state != .filling } }) hrole hbusy _
  rw [hwithdrawn]
  exact State.remarkCopy_of_not_idle (s := { s.endSweepRead with
    journal := { s.journal with records := s.journal.records.filter fun r => r.state != .filling },
    map := ((s.journal.records.filter fun r => r.state == .filling).filterMap Record.block?).foldl DirtyMap.set s.map }) hrole hbusy hcopy

/-- R65: the sweep after the timeout of its read. -/
theorem State.afterReadTimeout_eq (stop : Bool) (s : State) :
    s.afterReadTimeout stop =
      { s with sweep := { s.sweep with
                 state := if 4 ≤ s.sweep.timeouts + 1 ∨ stop = true then .stopped else if s.map.count = 0 then .idle else .scanning,
                 copy := none, request := false, stopPending := false, timeouts := s.sweep.timeouts + 1 },
               alert := if 4 ≤ s.sweep.timeouts + 1 then (s.report .sweepFault).alert else s.alert } := by
  unfold State.afterReadTimeout
  by_cases hlast : 4 ≤ s.sweep.timeouts + 1
  · rw [if_pos (by exact hlast), if_pos (.inl hlast), if_pos hlast]
    rfl
  · rw [if_neg (by exact hlast), if_neg hlast]
    cases stop with
    | true => simp [State.endCopy]
    | false =>
      simp only [hlast, State.endCopy, State.enterScanning, Bool.false_eq_true, or_self, if_false]
      rfl

/-- Settles O34: the placeholder's block and the copy's, then the count of timeouts. -/
theorem sweepReadTimeoutGivesTheBlockBack : Obligations.SweepReadTimeoutGivesTheBlockBack := by
  intro s c hs hrole hstate hcopy hread
  dsimp only
  rw [exec_sweepReadTimeout hs hread, State.givenBack_eq hrole hstate hcopy, State.afterReadTimeout_eq]
  rfl

/-- Settles O35: such an end finds only the port and the sweep's record of the read to free. -/
theorem endsWithoutATransactionAreDiscarded : Obligations.EndsWithoutATransactionAreDiscarded := by
  intro s data
  refine ⟨fun hs hread => ⟨?completion, ?timeout⟩, rfl⟩
  case completion =>
    change execOrphanedReadCompletion data s = _
    rw [execOrphanedReadCompletion, State.awake_of_runs hs, if_pos hread]
    rfl
  case timeout =>
    change execOrphanedReadTimeout s = _
    rw [execOrphanedReadTimeout, State.awake_of_runs hs, if_pos hread]
    rfl

/-! ## START REPAIR and STOP REPAIR (R66, R67) -/

/-- R66: START REPAIR by the sweep's state. -/
theorem State.startSweep_at_rest (hstate : s.sweep.state = .idle ∨ s.sweep.state = .stopped) :
    s.startSweep = { s with sweep := { s.sweep with state := if s.map.count = 0 then .idle else .scanning, timeouts := 0 } } := by
  unfold State.startSweep
  rcases hstate with hstate | hstate
  · simp only [hstate]
    rfl
  · simp only [hstate]
    rfl

theorem State.startSweep_seeking (hstate : s.sweep.state = .scanning ∨ s.sweep.state = .waiting) :
    s.startSweep = { s with sweep := { s.sweep with timeouts := 0 } } := by
  unfold State.startSweep
  rcases hstate with hstate | hstate <;> simp only [hstate]

theorem State.startSweep_copying (hstate : s.sweep.state = .copying) :
    s.startSweep = { s with sweep := { s.sweep with stopPending := false, timeouts := 0 } } := by
  unfold State.startSweep
  simp only [hstate]

theorem State.stopSweep_searching (hstate : s.sweep.state = .idle ∨ s.sweep.state = .scanning) :
    s.stopSweep = { s with sweep := { s.sweep with state := .stopped } } := by
  unfold State.stopSweep
  rcases hstate with hstate | hstate <;> simp only [hstate]

theorem State.stopSweep_stopped (hstate : s.sweep.state = .stopped) : s.stopSweep = s := by
  unfold State.stopSweep
  simp only [hstate]

theorem State.stopSweep_reading (hstate : s.sweep.state = .copying) (hrequest : s.sweep.request = false) :
    s.stopSweep = { s with sweep := { s.sweep with stopPending := true } } := by
  unfold State.stopSweep
  simp only [hstate]
  simp [hrequest]

/-- The state of a sweep whose copy a STOP REPAIR ends, before the host port's re-test. -/
def State.copyStopped (s : State) (c : Copy) : State :=
  { s with sweep := { s.sweep with state := .stopped, copy := none, request := false, stopPending := false },
           map := s.map.set c.block, mem := { s.mem with sweepWait := if s.sweep.request then 0 else s.mem.sweepWait } }

/-- R67: a copy that has no read running is given back. -/
theorem State.stopSweep_copy {c : Copy} (hrole : s.role = .primary) (hcopy : s.sweep.copy = some c)
    (hstate : s.sweep.state = .waiting ∧ s.sweep.request = false ∨ s.sweep.state = .copying ∧ s.sweep.request = true) :
    s.stopSweep = (s.copyStopped c).retestHost := by
  unfold State.stopSweep State.copyStopped
  rcases hstate with ⟨hstate, hrequest⟩ | ⟨hstate, hrequest⟩
  · simp only [hstate]
    rw [State.remarkCopy_of_not_idle hrole (by simp [hstate]) hcopy]
    simp [State.endCopy, hrequest]
  · simp only [hstate]
    rw [if_pos hrequest, State.remarkCopy_of_not_idle hrole (by simp [hstate]) hcopy]
    simp [State.endCopy, State.withdrawRequest, hrequest]

theorem exec_startRepair_accepted (ht : s.Takes 0x21 []) (hrole : s.role = .primary) (hup : s.link.state = .up) :
    exec .startRepair s = .next (State.replied s.startSweep.derivePair 0x21 [] .ok []) := by
  refine State.takeCommand_of_act ht (r := accept s.startSweep.derivePair) ?_
  simp [startRepairAct, hrole, State.linkUp, hup]

theorem exec_stopRepair_accepted (ht : s.Takes 0x22 []) (hrole : s.role = .primary) :
    exec .stopRepair s = .next (State.replied s.stopSweep.derivePair 0x22 [] .ok []) := by
  refine State.takeCommand_of_act ht (r := accept s.stopSweep.derivePair) ?_
  simp [stopRepairAct, hrole]

/-- Settles O53, by the sweep's state. -/
theorem repairCommandsActByTheSweepsState : Obligations.RepairCommandsActByTheSweepsState := by
  intro s
  dsimp only
  refine ⟨fun ht => ⟨fun hbad => ?refused, fun hrole hup => ⟨fun hw => ?rest, fun hw => ?seeking, fun hw => ?copying⟩⟩,
    fun ht => ⟨fun hrole => ?offPrimary, fun hrole => ⟨fun hw => ?search, fun hw => ?stopped, fun hw hr => ?reading, fun c hw hcopy => ?copy⟩⟩⟩
  case refused =>
    refine State.takeCommand_of_act ht (r := refuse .badState s) ?_
    unfold startRepairAct
    by_cases hrole : s.role = .primary
    · have hdown : s.link.state ≠ .up := hbad.resolve_left (Classical.not_not.mpr hrole)
      simp [hrole, State.linkUp, hdown]
    · exact if_pos hrole
  case rest => rw [exec_startRepair_accepted ht hrole hup, State.startSweep_at_rest hw]
  case seeking => rw [exec_startRepair_accepted ht hrole hup, State.startSweep_seeking hw]
  case copying => rw [exec_startRepair_accepted ht hrole hup, State.startSweep_copying hw]
  case offPrimary => exact State.takeCommand_of_act ht (r := refuse .badState s) (if_pos hrole)
  case search => rw [exec_stopRepair_accepted ht hrole, State.stopSweep_searching hw]
  case stopped => rw [exec_stopRepair_accepted ht hrole, State.stopSweep_stopped hw]
  case reading => rw [exec_stopRepair_accepted ht hrole, State.stopSweep_reading hw hr]
  case copy =>
    rw [exec_stopRepair_accepted ht hrole, State.stopSweep_copy hrole hcopy hw]
    refine ⟨_, rfl, ?_, State.derivePair_derived, fun hhost => ?_⟩
    · have hretested : (s.copyStopped c).retestHost = { s.copyStopped c with host := (s.copyStopped c).retestHost.host } :=
        State.retestHost_of_no_request rfl
      generalize (s.copyStopped c).retestHost = v at hretested ⊢
      have hderived := v.derivePair_frame
      rw [State.derivePair_host]
      generalize v.derivePair = u at hderived ⊢
      refine hderived.trans ?_
      conv => lhs; rw [hretested]
      rfl
    · rw [State.derivePair_host, State.retestHost_of_not_waiting (s.copyStopped c) hhost]
      rfl

end

end Sys2Proof.Machine

/-! PROOF. The transmitter, the line and the resets (R26, R73, R75, R78, R79, R168, R180, R182). -/

namespace Sys2Proof.Machine

open Sys2Proof

set_option Elab.async false

section
variable {s : State}

/-! ## The repeat and keepalive timers (R79) -/

theorem State.dueTraining_start {m : SessionMode} (hrole : s.role = .primary) (hphase : s.link.phase = .start m) :
    s.dueTraining = { s with link := { s.link with due := { s.link.due with start := true } } } := by
  simp only [State.dueTraining, hrole, hphase]

theorem State.dueTraining_hello (h : s.role ≠ .primary ∨ s.link.phase = .hello) :
    s.dueTraining = { s with link := { s.link with due := { s.link.due with hello := true } } } := by
  unfold State.dueTraining
  split
  · next m hrole hphase => exact absurd h (by simp [hrole, hphase])
  · rfl

theorem exec_repeatTimerExpiry (hs : s.Runs) (hrun : s.link.repeatRun = true) : exec .repeatTimerExpiry s = .next s.dueTraining.kick := by
  change execRepeatTimerExpiry s = _
  rw [execRepeatTimerExpiry, State.awake_of_runs hs, if_pos hrun]

/-- Settles O37, timer by timer. -/
theorem timerExpiryMakesItsFrameDue : Obligations.TimerExpiryMakesItsFrameDue := by
  intro s hs
  refine ⟨fun m hrun hrole hphase => ?start, fun hrun h => ?hello, fun hrun => ?idle⟩
  case start => rw [exec_repeatTimerExpiry hs hrun, State.dueTraining_start hrole hphase]
  case hello => rw [exec_repeatTimerExpiry hs hrun, State.dueTraining_hello h]
  case idle =>
    change execKeepaliveTimerExpiry s = _
    rw [execKeepaliveTimerExpiry, State.awake_of_runs hs, if_pos hrun]

/-! ## The transmitter's choice (R78) -/

section
variable (htx : s.link.tx = none)
include htx

theorem State.kick_of_ready_due (hhalt : s.link.due.halt = none) (hready : s.link.due.ready = true) :
    s.kick = s.transmit (.ready s.link.lastServed) { s.link.due with ready := false } := by
  simp [State.kick, htx, hhalt, hready]

theorem State.kick_of_start_due (hhalt : s.link.due.halt = none) (hready : s.link.due.ready = false) (hstart : s.link.due.start = true) :
    s.kick = s.transmit (.start s.link.lastSession s.link.phase.mode) { s.link.due with start := false } := by
  simp [State.kick, htx, hhalt, hready, hstart]

theorem State.kick_of_hello_due (hhalt : s.link.due.halt = none) (hready : s.link.due.ready = false) (hstart : s.link.due.start = false)
    (hhello : s.link.due.hello = true) : s.kick = s.transmit (.hello s.helloFrame) { s.link.due with hello := false } := by
  simp [State.kick, htx, hhalt, hready, hstart, hhello]

section
variable (hhalt : s.link.due.halt = none) (hready : s.link.due.ready = false) (hstart : s.link.due.start = false)
  (hhello : s.link.due.hello = false)
include hhalt hready hstart hhello

theorem State.kick_of_nak_due (hnak : s.link.due.nak = true) :
    s.kick = s.transmit (.nak s.receiver.expected) { s.link.due with nak := false } := by
  simp [State.kick, htx, hhalt, hready, hstart, hhello, hnak]

theorem State.kick_of_ack_due (hnak : s.link.due.nak = false) (hack : s.link.due.ack = true) :
    s.kick = s.transmit (.ack s.receiver.appliedThrough) { s.link.due with ack := false } := by
  simp [State.kick, htx, hhalt, hready, hstart, hhello, hnak, hack]

theorem State.kick_of_data {f : LinkFrame} {t : State} (hnak : s.link.due.nak = false) (hack : s.link.due.ack = false)
    (hdata : s.dataFrame = some (f, t)) : s.kick = t.transmit f s.link.due := by
  simp [State.kick, htx, hhalt, hready, hstart, hhello, hnak, hack, hdata]

theorem State.kick_of_idle_due (hnak : s.link.due.nak = false) (hack : s.link.due.ack = false) (hdata : s.dataFrame = none)
    (hidle : s.link.due.idle = true) : s.kick = s.transmit .idle { s.link.due with idle := false } := by
  simp [State.kick, htx, hhalt, hready, hstart, hhello, hnak, hack, hdata, hidle]

theorem State.kick_of_none_due (hnak : s.link.due.nak = false) (hack : s.link.due.ack = false) (hdata : s.dataFrame = none)
    (hidle : s.link.due.idle = false) : s.kick = s := by
  simp [State.kick, htx, hhalt, hready, hstart, hhello, hnak, hack, hdata, hidle]

end

end

/-! ## The record a DATA frame takes (R101, R102) -/

theorem resendFirst_split {pre post : List Record} {r : Record} (hpre : ∀ p ∈ pre, p.state ≠ .resend) (hr : r.state = .resend) :
    resendFirst (pre ++ r :: post) = some (r, pre ++ { r with state := .sent } :: post) := by
  induction pre with
  | nil => simp [resendFirst, hr]
  | cons x rest ih =>
    have hx : x.state ≠ .resend := hpre x List.mem_cons_self
    simp [resendFirst, hx, ih fun p hp => hpre p (List.mem_cons_of_mem _ hp)]

theorem resendFirst_none {rs : List Record} (h : ∀ r ∈ rs, r.state ≠ .resend) : resendFirst rs = none := by
  induction rs with
  | nil => rfl
  | cons x rest ih =>
    simp [resendFirst, h x List.mem_cons_self, ih fun p hp => h p (List.mem_cons_of_mem _ hp)]

theorem sendFirst_split {pre post : List Record} {r : Record} (n : SeqNo) (hpre : ∀ p ∈ pre, p.state = .sent) (hr : r.state = .queued) :
    sendFirst n (pre ++ r :: post) = some (r, pre ++ { r with state := .sent, seq := some n } :: post) := by
  induction pre with
  | nil => simp [sendFirst, hr]
  | cons x rest ih =>
    have hx : x.state = .sent := hpre x List.mem_cons_self
    simp [sendFirst, hx, ih fun p hp => hpre p (List.mem_cons_of_mem _ hp)]

theorem outstanding_of_split {j : Journal} {pre post : List Record} {r : Record} (hj : j.records = pre ++ r :: post)
    (hpre : ∀ p ∈ pre, p.state = .sent) (hr : r.state = .queued) (hpost : ∀ p ∈ post, p.isOutstanding = false) :
    j.outstanding = pre.length := by
  have hsent : pre.countP Record.isOutstanding = pre.length :=
    List.countP_eq_length.mpr fun p hp => by simp [Record.isOutstanding, hpre p hp]
  have hrest : post.countP Record.isOutstanding = 0 := List.countP_eq_zero.mpr fun p hp => by simp [hpost p hp]
  have hqueued : r.isOutstanding = false := by simp [Record.isOutstanding, hr]
  rw [Journal.outstanding, hj, List.countP_append, List.countP_cons, hsent, hrest, hqueued]
  rfl

theorem State.dataFrame_resend {pre post : List Record} {r : Record} {q : SeqNo} (hrole : s.role = .primary) (hup : s.link.state = .up)
    (hj : s.journal.records = pre ++ r :: post) (hpre : ∀ p ∈ pre, p.state ≠ .resend) (hr : r.state = .resend) (hq : r.seq = some q) :
    s.dataFrame = some (.data q r.payload,
      State.bump .recordsResent { s with journal := { s.journal with records := pre ++ { r with state := .sent } :: post } }) := by
  have hactive : s.senderActive = true := s.senderActive_iff.mpr ⟨hrole, hup⟩
  simp [State.dataFrame, hactive, hj, resendFirst_split hpre hr, hq]

theorem State.dataFrame_send {pre post : List Record} {r : Record} (hrole : s.role = .primary) (hup : s.link.state = .up)
    (hj : s.journal.records = pre ++ r :: post) (hpre : ∀ p ∈ pre, p.state = .sent) (hr : r.state = .queued)
    (hpost : ∀ p ∈ post, p.isOutstanding = false) (hwindow : pre.length < s.params.windowSize) :
    s.dataFrame = some (.data s.sender.next r.payload, State.bump .recordsSent
      { s with
        journal := { s.journal with records := pre ++ { r with state := .sent, seq := some s.sender.next } :: post },
        sender := { s.sender with next := s.sender.next + 1,
                                  timer := if pre = [] then some s.params.retxInterval else s.sender.timer } }) := by
  have hactive : s.senderActive = true := s.senderActive_iff.mpr ⟨hrole, hup⟩
  have hout := outstanding_of_split hj hpre hr hpost
  have hnone : resendFirst (pre ++ r :: post) = none := by
    refine resendFirst_none fun x hx => ?_
    rcases List.mem_append.mp hx with hx | hx
    · simp [hpre x hx]
    · rcases List.mem_cons.mp hx with rfl | hx
      · simp [hr]
      · intro hstate
        simpa [Record.isOutstanding, hstate] using hpost x hx
  have hsent : s.recordSent (pre ++ { r with state := .sent, seq := some s.sender.next } :: post) = State.bump .recordsSent
      { s with
        journal := { s.journal with records := pre ++ { r with state := .sent, seq := some s.sender.next } :: post },
        sender := { s.sender with next := s.sender.next + 1,
                                  timer := if pre = [] then some s.params.retxInterval else s.sender.timer } } := by
    unfold State.recordSent
    rw [hout]
    cases pre <;> rfl
  rw [← hsent]
  simp [State.dataFrame, hactive, hj, hnone, hout, Nat.not_le.mpr hwindow, sendFirst_split s.sender.next hpre hr]

/-! ## The end of a frame (R73, R78, R79) -/

/-- The part after a frame has left: the keepalive timer as the link says, line fill owed, and the transmitter free. -/
def State.frameLeft (s : State) : State := State.lineFill { s with link := { s.link with tx := none, keepaliveRun := s.linkUp } }

theorem exec_transmitFrameEnd (hs : s.Runs) (htx : s.link.tx.isSome = true) : exec .transmitFrameEnd s = .next s.frameLeft.kick := by
  change execTransmitFrameEnd s = _
  rw [execTransmitFrameEnd, State.awake_of_runs hs]
  obtain ⟨f, hf⟩ := Option.isSome_iff_exists.mp htx
  simp only [hf]
  rfl

theorem State.frameLeft_dataFrame_none (hdata : s.dataFrame.isNone = true) : s.frameLeft.dataFrame = none := by
  have hsame : s.frameLeft.dataFrame.isNone = s.dataFrame.isNone := State.dataFrame_isNone_congr rfl rfl rfl
  exact Option.isNone_iff_eq_none.mp (hsame.trans hdata)

theorem State.helloFrame_primary (hrole : s.role = .primary) :
    s.helloFrame = { role := .primary, pairId := s.params.pairId, session := successor s.link.lastSession,
                     continuity := false, queueEmpty := true } := by
  simp only [State.helloFrame, hrole]

theorem State.helloFrame_replica (hrole : s.role = .replica) :
    s.helloFrame = { role := .replica, pairId := s.params.pairId, session := s.link.lastServed,
                     continuity := s.link.continuity, queueEmpty := s.receiver.queue.isEmpty } := by
  simp only [State.helloFrame, hrole]

/-! ## The symbols of a frame (R180) -/

theorem LinkFrame.last_symbol {f : LinkFrame} {n : Nat} (h : n + 1 = f.symbols.length) : f.symbols.getD n .fill = .endOfFrame := by
  have hn : n = (LineSymbol.startOfFrame :: f.encode.map .data).length := by
    simp only [LinkFrame.symbols, List.length_append, List.length_cons, List.length_nil] at h ⊢
    omega
  rw [LinkFrame.symbols, List.getD_eq_getElem?_getD, List.getElem?_append_right (Nat.le_of_eq hn.symm), hn, Nat.sub_self]
  rfl

theorem State.frameOnLine_of_tx {f : LinkFrame} (hs : s.Runs) (htx : s.link.tx = some f) (hfill : s.wire.fillDue = 0) :
    s.frameOnLine = some f := by
  have hawake : s.inReset = false := hs
  simp [State.frameOnLine, hawake, hfill, htx]

theorem State.frameOnLine_none (h : s.link.tx = none ∨ 1 ≤ s.wire.fillDue) : s.frameOnLine = none := by
  unfold State.frameOnLine
  split
  · rfl
  · next hclear =>
    refine h.resolve_right fun hfill => hclear ?_
    have hne : s.wire.fillDue ≠ 0 := Nat.ne_of_gt hfill
    simp [hne]

theorem State.lineOut_of_frame {f : LinkFrame} (h : s.frameOnLine = some f) :
    s.lineOut = symbolCode s.wire.txDisparity (f.symbols.getD s.wire.sent .fill) := by
  simp only [State.lineOut, State.symbolSent, h]

theorem State.lineOut_of_none (h : s.frameOnLine = none) : s.lineOut = symbolCode s.wire.txDisparity .fill := by
  simp only [State.lineOut, State.symbolSent, h]

theorem State.symbolOut_of_none (h : s.frameOnLine = none) :
    s.symbolOut = .next { s with wire := { s.wire with
      txDisparity := disparityAfterCode s.wire.txDisparity s.lineOut, fillDue := s.wire.fillDue - 1 } } := by
  simp only [State.symbolOut, h]

theorem State.symbolOut_of_more {f : LinkFrame} (h : s.frameOnLine = some f) (hmore : s.wire.sent + 1 < f.symbols.length) :
    s.symbolOut = .next { s with wire := { s.wire with
      txDisparity := disparityAfterCode s.wire.txDisparity s.lineOut, sent := s.wire.sent + 1 } } := by
  simp only [State.symbolOut, h, if_pos hmore]

theorem State.symbolOut_of_last {f : LinkFrame} (h : s.frameOnLine = some f) (hlast : s.wire.sent + 1 = f.symbols.length) :
    s.symbolOut = execTransmitFrameEnd { s with wire := { s.wire with
      txDisparity := disparityAfterCode s.wire.txDisparity s.lineOut } } := by
  simp only [State.symbolOut, h, if_neg (Nat.not_lt.mpr (Nat.le_of_eq hlast.symm))]

/-- Settles O36: the order of the frames due, and the crossing of the symbols. -/
theorem transmitterBeginsTheFirstDueFrame : Obligations.TransmitterBeginsTheFirstDueFrame := by
  intro s hs htx
  dsimp only
  rw [exec_transmitFrameEnd hs htx]
  have hfree : s.frameLeft.link.tx = none := rfl
  refine ⟨fun r hhalt => ?halt, fun hhalt hready => ?ready, fun m hhalt hready hstart hphase => ?start,
    fun hhalt hready hstart hhello => ⟨fun hrole => ?primary, fun hrole => ?replica⟩,
    fun hhalt hready hstart hhello => ⟨fun hnak => ?nak, fun hnak hack => ?ack, fun hnak hack =>
      ⟨fun pre r post q hrole hup hj hpre hr hq => ?resend, fun pre r post hrole hup hj hpre hr hpost hwindow => ?send,
        fun hdata => ⟨fun hidle => ?idle, fun hidle => ?none⟩⟩⟩, fun v f hv => ?line⟩
  case halt =>
    rw [State.kick_of_halt_due hfree hhalt]
    rfl
  case ready =>
    rw [State.kick_of_ready_due hfree hhalt hready]
    rfl
  case start =>
    have hmode : s.frameLeft.link.phase.mode = m := congrArg TrainPhase.mode hphase
    rw [State.kick_of_start_due hfree hhalt hready hstart, hmode]
    rfl
  case primary =>
    rw [State.kick_of_hello_due hfree hhalt hready hstart hhello, State.helloFrame_primary (s := s.frameLeft) hrole]
    rfl
  case replica =>
    rw [State.kick_of_hello_due hfree hhalt hready hstart hhello, State.helloFrame_replica (s := s.frameLeft) hrole]
    rfl
  case nak =>
    rw [State.kick_of_nak_due hfree hhalt hready hstart hhello hnak]
    rfl
  case ack =>
    rw [State.kick_of_ack_due hfree hhalt hready hstart hhello hnak hack]
    rfl
  case resend =>
    rw [State.kick_of_data hfree hhalt hready hstart hhello hnak hack
      (State.dataFrame_resend (s := s.frameLeft) hrole hup hj hpre hr hq)]
    rfl
  case send =>
    rw [State.kick_of_data hfree hhalt hready hstart hhello hnak hack
      (State.dataFrame_send (s := s.frameLeft) hrole hup hj hpre hr hpost hwindow)]
    rfl
  case idle =>
    rw [State.kick_of_idle_due hfree hhalt hready hstart hhello hnak hack (State.frameLeft_dataFrame_none hdata) hidle]
    rfl
  case none =>
    rw [State.kick_of_none_due hfree hhalt hready hstart hhello hnak hack (State.frameLeft_dataFrame_none hdata) hidle]
    rfl
  case line =>
    refine ⟨fun hf hfill hmore => ?_, fun hf hfill hlast => ?_, fun hnone => ?_⟩
    · have hline := State.frameOnLine_of_tx hv hf hfill
      exact ⟨State.lineOut_of_frame hline, State.symbolOut_of_more hline hmore⟩
    · have hline := State.frameOnLine_of_tx hv hf hfill
      refine ⟨?_, State.symbolOut_of_last hline hlast⟩
      rw [State.lineOut_of_frame hline, LinkFrame.last_symbol hlast]
    · have hline := State.frameOnLine_none hnone
      exact ⟨State.lineOut_of_none hline, State.symbolOut_of_none hline⟩

/-! ## Frames discarded (R75, R180) -/

theorem State.receive_of_off (hs : s.Runs) (hoff : s.link.state = .off) (k : FrameType) (bytes : List Byte)
    (act : LinkFrame → State → State) : s.receive k bytes act = .next s := by
  rw [State.receive, State.awake_of_runs hs, if_pos hoff]

theorem exec_truncatedFrame (hs : s.Runs) (bytes : List Byte) (symbol : TruncatingSymbol) :
    exec (.truncatedFrame bytes symbol) s = if s.link.state = .off then .next s else .next (s.bump .framesDiscarded) :=
  State.awake_of_runs hs _

/-- Every receive command discards what its frame's checks refuse, and in OFF everything. -/
theorem exec_receive_discards {c : Instr} {bytes : List Byte} (hs : s.Runs)
    (hc : c ∈ [Instr.receiveHello bytes, .receiveStart bytes, .receiveReady bytes, .receiveData bytes, .receiveAck bytes,
      .receiveNak bytes, .receiveIdle bytes, .receiveHalt bytes]) :
    (s.link.state ≠ .off → checkFrame bytes = none → exec c s = .next (s.bump .framesDiscarded)) ∧
      (s.link.state = .off → exec c s = .next s) := by
  have hreceive (k : FrameType) (act : LinkFrame → State → State) :
      (s.link.state ≠ .off → checkFrame bytes = none → s.receive k bytes act = .next (s.bump .framesDiscarded)) ∧
        (s.link.state = .off → s.receive k bytes act = .next s) :=
    ⟨fun hon hbad => State.receive_of_invalid hs hon k bytes act hbad, fun hoff => State.receive_of_off hs hoff k bytes act⟩
  simp only [List.mem_cons, List.not_mem_nil, or_false] at hc
  rcases hc with rfl | rfl | rfl | rfl | rfl | rfl | rfl | rfl
  · exact hreceive .hello _
  · exact hreceive .start _
  · exact hreceive .ready _
  · exact hreceive .data _
  · exact hreceive .ack _
  · exact hreceive .nak _
  · exact hreceive .idle fun _ s => s
  · exact hreceive .halt _

theorem State.symbolIn_of_gather {code : LineCode} {g : Option (List Byte)} (hs : s.Runs)
    (hg : gather s.wire.gathered (decodeSymbol s.wire.rxDisparity code) = (g, none)) :
    s.lineEvent (.symbolIn code) =
      .next { s with wire := { s.wire with rxDisparity := disparityAfterCode s.wire.rxDisparity code, gathered := g } } := by
  change s.symbolIn code = _
  rw [State.symbolIn, State.awake_of_runs hs]
  simp only [hg]

theorem State.symbolIn_of_command {code : LineCode} {g : Option (List Byte)} {c : Instr} (hs : s.Runs)
    (hg : gather s.wire.gathered (decodeSymbol s.wire.rxDisparity code) = (g, some c)) :
    s.lineEvent (.symbolIn code) =
      exec c { s with wire := { s.wire with rxDisparity := disparityAfterCode s.wire.rxDisparity code, gathered := g } } := by
  change s.symbolIn code = _
  rw [State.symbolIn, State.awake_of_runs hs]
  simp only [hg]

/-- A frame cut short counts as discarded, but for OFF (R75, R180). -/
theorem State.symbolIn_of_cut {code : LineCode} {g : Option (List Byte)} {bytes : List Byte} {symbol : TruncatingSymbol} (hs : s.Runs)
    (hg : gather s.wire.gathered (decodeSymbol s.wire.rxDisparity code) = (g, some (.truncatedFrame bytes symbol))) :
    let moved : State :=
      { s with wire := { s.wire with rxDisparity := disparityAfterCode s.wire.rxDisparity code, gathered := g } }
    s.lineEvent (.symbolIn code) =
      .next (if s.link.state = .off then moved
             else { moved with counters := s.counters.set 3 (saturatingSucc s.counters[3]) }) := by
  dsimp only
  rw [State.symbolIn_of_command hs hg, exec_truncatedFrame (by exact hs)]
  dsimp only
  split
  · rfl
  · rfl

/-- Settles O40: the checks of each frame command, and the symbols one by one. -/
theorem discardedFramesAreCounted : Obligations.DiscardedFramesAreCounted := by
  refine ⟨fun s bytes symbol hs => ⟨fun hon => ?cut, fun hoff => ?off, fun c hc => exec_receive_discards hs hc⟩, fun s code hs => ?symbols⟩
  case cut =>
    rw [exec_truncatedFrame hs, if_neg hon]
    rfl
  case off => rw [exec_truncatedFrame hs, if_pos hoff]
  case symbols =>
    dsimp only
    refine ⟨fun hout hy => ?outside, fun hout hy => ?begins, fun bytes hin => ⟨fun b hy => ?data, fun hy => ?ends, fun hy => ?restarts,
      fun hy => ?breaks⟩⟩
    case outside =>
      refine State.symbolIn_of_gather hs ?_
      rw [hout]
      generalize decodeSymbol s.wire.rxDisparity code = y at hy ⊢
      unfold gather
      split
      all_goals simp_all
    case begins => exact State.symbolIn_of_gather hs (by rw [hout, hy]; rfl)
    case data => exact State.symbolIn_of_gather hs (by rw [hin, hy]; rfl)
    case ends => exact State.symbolIn_of_command hs (by rw [hin, hy]; rfl)
    case restarts => exact State.symbolIn_of_cut (symbol := .startOfFrame) hs (by rw [hin, hy]; rfl)
    case breaks =>
      rcases hy with hy | hy
      · exact State.symbolIn_of_cut (symbol := .fill) hs (by rw [hin, hy]; rfl)
      · exact State.symbolIn_of_cut (symbol := .invalidSymbol) hs (by rw [hin, hy]; rfl)

/-! ## The power-on reset (R26, R159, R182) -/

/-- A part held in reset takes no command but a reset or the release (R182). -/
theorem exec_of_inReset (hreset : s.inReset = true) {c : Instr} (hpower : ∀ cause, c ≠ .powerOnReset cause)
    (hrelease : ∀ m, c ≠ .resetRelease m) : exec c s = .next s := by
  cases c with
  | powerOnReset cause => exact absurd rfl (hpower cause)
  | resetRelease m => exact absurd rfl (hrelease m)
  | abandonedTransactionAnswer => rfl
  | unknownCommand code =>
    change execUnknownCommand code s = _
    unfold execUnknownCommand
    split
    · rfl
    · exact State.awake_of_inReset hreset _
  | _ => exact State.awake_of_inReset hreset _

theorem State.lineEvent_of_inReset (hreset : s.inReset = true) {e : LineEvent} (he : e ≠ .symbolOut) : s.lineEvent e = .next s := by
  cases e with
  | symbolOut => exact absurd rfl he
  | mselRise =>
    change s.mselRise = _
    unfold State.mselRise
    split
    · rfl
    · exact State.awake_of_inReset hreset _
    · exact State.awake_of_inReset hreset _
    · exact State.awake_of_inReset hreset _
    · exact State.awake_of_inReset hreset _
  | _ => exact State.awake_of_inReset hreset _

/-- Settles O60: the reset in whole, the pulse that does it or not, and the part while it is held. -/
theorem powerOnResetInWholeOrNotAtAll : Obligations.PowerOnResetInWholeOrNotAtAll := by
  intro s lowNs mselLow
  dsimp only
  refine ⟨fun n => ⟨rfl, rfl, rfl, ?regions⟩, rfl, fun hlong => ?long, fun hshort => ?short, fun hreset => ⟨?release, ?alert, ?mdo, ?out,
    fun e he => State.lineEvent_of_inReset hreset he, ?symbol, fun c hpower hrelease => exec_of_inReset hreset hpower hrelease⟩⟩
  case regions =>
    change ∀ i : Fin 16, State.reset.regions[i] = _
    decide +kernel
  case long => exact if_pos hlong
  case short =>
    change execPowerOnReset (.resetPin lowNs) s = _ ∨ execPowerOnReset (.resetPin lowNs) s = _
    unfold execPowerOnReset
    dsimp only
    rw [if_neg (Nat.not_le.mpr hshort)]
    split
    · exact .inl rfl
    · exact .inr rfl
  case release =>
    change execResetRelease mselLow s = _
    rw [execResetRelease, if_pos hreset]
    cases mselLow <;> rfl
  case alert => simp [State.alertPin, hreset]
  case mdo => simp [State.mdoPin, hreset]
  case out => exact State.lineOut_of_none (by simp [State.frameOnLine, hreset])
  case symbol => exact State.symbolOut_of_none (by simp [State.frameOnLine, hreset])

/-! ## RESET PART (R21, R25, R168) -/

/-- Settles O58: the blocks reset, the host port by its state, and the memory port by the owner of its use. -/
theorem resetPartIsASoftReset : Obligations.ResetPartIsASoftReset := by
  intro s ht
  have hexec : exec .resetPart s = .next (State.replied s.softReset 0x3F [] .ok []) := 
    State.takeCommand_of_takes ht fun s => accept s.softReset
  refine ⟨s.host.softReset, s.mem.abandonOwn.use, ?reset, fun h => ?idle, fun h => ?spaceWait, fun h => ?portWait, fun h => ?inMemory,
    fun h => ?hold, fun huse => ?free, fun p huse => ?used⟩
  case reset =>
    have hawake : s.inReset = false := ht.1
    rw [hexec, State.softReset, hawake]
    rfl
  case idle => simp only [HostPort.softReset, h]
  case spaceWait => simp only [HostPort.softReset, h]
  case portWait => simp only [HostPort.softReset, h]
  case inMemory => simp only [HostPort.softReset, h]
  case hold => simp only [HostPort.softReset, h]
  case free => simp only [MemPort.abandonOwn, huse]
  case used =>
    simp only [MemPort.abandonOwn, huse]
    split <;> simp_all

end

end Sys2Proof.Machine

/-! PROOF. The frames of the pair link through their bytes and their line symbols (R75, R180, R181). -/

namespace Sys2Proof.Machine

open Sys2Proof

set_option Elab.async false

/-! ## Numbers and their bytes (R179, R181) -/

theorem toNat_append_add {m n : Nat} (a : BitVec m) (b : BitVec n) : (a ++ b).toNat = a.toNat * 2 ^ n + b.toNat := by
  rw [BitVec.toNat_append, ← Nat.shiftLeft_add_eq_or_of_lt b.isLt, Nat.shiftLeft_eq]

theorem extract_high_append {m n : Nat} (a : BitVec m) (b : BitVec n) : (a ++ b).extractLsb' n m = a := by
  apply BitVec.eq_of_toNat_eq
  rw [BitVec.extractLsb'_toNat, toNat_append_add, Nat.shiftRight_eq_div_pow, Nat.mul_comm, Nat.mul_add_div (Nat.two_pow_pos n),
    Nat.div_eq_of_lt b.isLt, Nat.add_zero, Nat.mod_eq_of_lt a.isLt]

theorem extract_low_append {m n : Nat} (a : BitVec m) (b : BitVec n) : (a ++ b).extractLsb' 0 n = b := by
  apply BitVec.eq_of_toNat_eq
  rw [BitVec.extractLsb'_toNat, toNat_append_add, Nat.shiftRight_zero, Nat.mul_add_mod', Nat.mod_eq_of_lt b.isLt]

theorem append_extract {m n : Nat} (w : BitVec (m + n)) : w.extractLsb' n m ++ w.extractLsb' 0 n = w := by
  apply BitVec.eq_of_toNat_eq
  have hlt : w.toNat / 2 ^ n < 2 ^ m := by
    rw [Nat.div_lt_iff_lt_mul (Nat.two_pow_pos n), ← Nat.pow_add]
    exact w.isLt
  rw [toNat_append_add, BitVec.extractLsb'_toNat, BitVec.extractLsb'_toNat, Nat.shiftRight_zero, Nat.shiftRight_eq_div_pow,
    Nat.mod_eq_of_lt hlt, Nat.div_add_mod']

/-! ## The line code, block by block -/

/-- The low five bits are read back from their block. -/
theorem sixOf_found (d : Disparity) :
    ∀ i < 32, ((List.range 32).find? fun x => sixOf d (BitVec.ofNat 5 x) == sixOf d (BitVec.ofNat 5 i)) = some i := by
  cases d
  · decide +kernel
  · decide +kernel

/-- The high three bits are read back from theirs, after any low five and at any disparity. -/
theorem fourOf_found (d : Disparity) :
    ∀ i < 32, ∀ j < 8,
      ((List.range 8).find? fun y =>
        fourOf d (BitVec.ofNat 5 i) (BitVec.ofNat 3 y) == fourOf d (BitVec.ofNat 5 i) (BitVec.ofNat 3 j)) = some j := by
  cases d
  · decide +kernel
  · decide +kernel

/-- The ten bits of the byte with low five bits x and high three bits y. -/
def dataCode (d : Disparity) (x : BitVec 5) (y : BitVec 3) : LineCode := sixOf d x ++ fourOf (disparityAfter d (sixOf d x)) x y

/-- No data symbol has the bits of a control symbol. -/
theorem dataCode_ne_control (d : Disparity) :
    ∀ i < 32, ∀ j < 8, dataCode d (BitVec.ofNat 5 i) (BitVec.ofNat 3 j) ∉
      [symbolCode d .startOfFrame, symbolCode d .endOfFrame, symbolCode d .fill] := by
  cases d
  · decide +kernel
  · decide +kernel

theorem decodeByte_dataCode (d : Disparity) {i j : Nat} (hi : i < 32) (hj : j < 8) :
    decodeByte d (dataCode d (BitVec.ofNat 5 i) (BitVec.ofNat 3 j)) = some (BitVec.ofNat 3 j ++ BitVec.ofNat 5 i) := by
  unfold decodeByte dataCode
  dsimp only
  rw [extract_high_append, extract_low_append, sixOf_found d i hi]
  dsimp only
  rw [fourOf_found _ i hi j hj]

theorem decodeSymbol_symbolCode (d : Disparity) (y : LineSymbol) : decodeSymbol d (symbolCode d y) = some y := by
  cases y with
  | data b =>
    have hlow : b.extractLsb' 0 5 = BitVec.ofNat 5 (b.extractLsb' 0 5).toNat := by rw [BitVec.ofNat_toNat, BitVec.setWidth_eq]
    have hhigh : b.extractLsb' 5 3 = BitVec.ofNat 3 (b.extractLsb' 5 3).toNat := by rw [BitVec.ofNat_toNat, BitVec.setWidth_eq]
    have hi := (b.extractLsb' 0 5).isLt
    have hj := (b.extractLsb' 5 3).isLt
    have hcode : symbolCode d (.data b) =
        dataCode d (BitVec.ofNat 5 (b.extractLsb' 0 5).toNat) (BitVec.ofNat 3 (b.extractLsb' 5 3).toNat) := by
      rw [← hlow, ← hhigh]
      rfl
    have hne := dataCode_ne_control d _ hi _ hj
    simp only [List.mem_cons, List.not_mem_nil, or_false, not_or] at hne
    obtain ⟨hstart, hend, hfill⟩ := hne
    rw [hcode, decodeSymbol, if_neg hstart, if_neg hend, if_neg hfill, decodeByte_dataCode d hi hj, ← hlow, ← hhigh]
    have hbyte : b.extractLsb' 5 3 ++ b.extractLsb' 0 5 = b := append_extract (m := 3) (n := 5) b
    rw [hbyte]
    rfl
  | startOfFrame => exact if_pos rfl
  | endOfFrame => cases d <;> rfl
  | fill => cases d <;> rfl

/-! ## Gathering (R180) -/

theorem gather_bytes (bytes gathered : List Byte) :
    bytes.foldl (fun g b => (gather g (some (.data b))).1) (some gathered) = some (gathered ++ bytes) := by
  induction bytes generalizing gathered with
  | nil => simp
  | cons b rest ih => simpa [gather] using ih (gathered ++ [b])

/-! ## The fields of a frame (R181) -/

theorem bytes16_join (w : BitVec 16) : w.extractLsb' 8 8 ++ w.extractLsb' 0 8 = w := append_extract (m := 8) (n := 8) w

theorem bytes16_append (b1 b0 : Byte) : bytes16 (b1 ++ b0) = [b1, b0] := by
  rw [bytes16, extract_high_append b1 b0, extract_low_append b1 b0]

theorem lineField_bytesLine (l : LineIndex) :
    lineField (0#2 ++ l.extractLsb' 16 6) (l.extractLsb' 8 8) (l.extractLsb' 0 8) = some l := by
  have hlow : l.extractLsb' 16 6 ++ l.extractLsb' 8 8 ++ l.extractLsb' 0 8 = l := by
    have hmid : l.extractLsb' 16 6 ++ l.extractLsb' 8 8 = l.extractLsb' 8 14 := by
      apply BitVec.eq_of_toNat_eq
      simp only [toNat_append_add, BitVec.extractLsb'_toNat, Nat.shiftRight_eq_div_pow]
      omega
    rw [hmid]
    exact append_extract (m := 14) (n := 8) l
  rw [lineField, extract_high_append, extract_low_append, hlow]
  rfl

theorem bytesLine_of_lineField {b2 b1 b0 : Byte} {l : LineIndex} (h : lineField b2 b1 b0 = some l) : bytesLine l = [b2, b1, b0] := by
  unfold lineField at h
  split at h
  · next hzero =>
    obtain rfl := Option.some.inj h
    have hhigh : (b2.extractLsb' 0 6 ++ b1 ++ b0).extractLsb' 16 6 = b2.extractLsb' 0 6 := by
      apply BitVec.eq_of_toNat_eq
      simp only [toNat_append_add, BitVec.extractLsb'_toNat, Nat.shiftRight_eq_div_pow]
      have h1 := b1.isLt
      have h0 := b0.isLt
      omega
    have hmid : (b2.extractLsb' 0 6 ++ b1 ++ b0).extractLsb' 8 8 = b1 := by
      apply BitVec.eq_of_toNat_eq
      simp only [toNat_append_add, BitVec.extractLsb'_toNat, Nat.shiftRight_eq_div_pow]
      have h1 := b1.isLt
      have h0 := b0.isLt
      omega
    have htop : 0#2 ++ b2.extractLsb' 0 6 = b2 := by
      rw [← append_extract (m := 2) (n := 6) b2, hzero, extract_low_append]
      rfl
    rw [bytesLine, hhigh, hmid, htop, extract_low_append (b2.extractLsb' 0 6 ++ b1) b0]
  · cases h

theorem bytesMask_length (m : LineMask) : (bytesMask m).length = 8 := by simp [bytesMask]

theorem maskOfBytes_bytesMask (m : LineMask) : maskOfBytes (bytesMask m) = m := by
  apply BitVec.eq_of_toNat_eq
  simp only [maskOfBytes, bytesMask, List.range, List.range.loop, List.map_cons, List.map_nil, List.getD_cons_zero, List.getD_cons_succ,
    toNat_append_add, BitVec.extractLsb'_toNat, Nat.shiftRight_eq_div_pow]
  have hm := m.isLt
  omega

theorem bytesMask_maskOfBytes {bs : List Byte} (h : bs.length = 8) : bytesMask (maskOfBytes bs) = bs := by
  match bs, h with
  | [a0, a1, a2, a3, a4, a5, a6, a7], _ =>
    have h0 := a0.isLt
    have h1 := a1.isLt
    have h2 := a2.isLt
    have h3 := a3.isLt
    have h4 := a4.isLt
    have h5 := a5.isLt
    have h6 := a6.isLt
    have h7 := a7.isLt
    simp only [maskOfBytes, bytesMask, List.range, List.range.loop, List.map_cons, List.map_nil, List.getD_cons_zero,
      List.getD_cons_succ, List.cons.injEq, and_true]
    refine ⟨?_, ?_, ?_, ?_, ?_, ?_, ?_, ?_⟩
    all_goals
      apply BitVec.eq_of_toNat_eq
      simp only [toNat_append_add, BitVec.extractLsb'_toNat, Nat.shiftRight_eq_div_pow]
      omega

theorem lineOfBytes_toList (d : LineBytes) : lineOfBytes d.toList = d := by
  ext k hk
  simp [lineOfBytes]

theorem toList_lineOfBytes {bs : List Byte} (h : bs.length = 64) : (lineOfBytes bs).toList = bs := by
  apply List.ext_getElem
  · simp [h]
  · intro k hk hk'
    simp [lineOfBytes, hk']

theorem helloFlags_fields (c q : Bool) :
    (helloFlags c q).extractLsb' 2 6 = 0 ∧ (helloFlags c q)[0] = c ∧ (helloFlags c q)[1] = q := by
  cases c <;> cases q <;> decide

theorem helloFlags_of_fields {b : Byte} (h : b.extractLsb' 2 6 = 0) : helloFlags (b.getLsbD 0) (b.getLsbD 1) = b := by
  have hsmall : b.toNat < 4 := by
    have hbits := congrArg BitVec.toNat h
    rw [BitVec.extractLsb'_toNat, Nat.shiftRight_eq_div_pow] at hbits
    have hlt := b.isLt
    simp at hbits
    omega
  obtain ⟨n, hn, rfl⟩ : ∃ n, n < 4 ∧ b = BitVec.ofNat 8 n := ⟨b.toNat, hsmall, by rw [BitVec.ofNat_toNat, BitVec.setWidth_eq]⟩
  clear h hsmall
  revert n
  decide

theorem helloRole_code (r : HelloRole) : helloRole r.code = some r := by cases r <;> rfl

theorem code_of_helloRole {b : Byte} {r : HelloRole} (h : helloRole b = some r) : r.code = b := by
  unfold helloRole at h
  split at h
  · next hb => exact Option.some.inj h ▸ hb.symm
  · split at h
    · next hb => exact Option.some.inj h ▸ hb.symm
    · cases h

theorem sessionMode_code (m : SessionMode) : sessionMode m.code = some m := by cases m <;> rfl

theorem code_of_sessionMode {b : Byte} {m : SessionMode} (h : sessionMode b = some m) : m.code = b := by
  unfold sessionMode at h
  split at h
  · next hb => exact Option.some.inj h ▸ hb.symm
  · split at h
    · next hb => exact Option.some.inj h ▸ hb.symm
    · cases h

theorem haltReason_code (r : HaltReason) : haltReason r.code = some r := by cases r <;> rfl

theorem code_of_haltReason {b : Byte} {r : HaltReason} (h : haltReason b = some r) : r.code = b := by
  unfold haltReason at h
  split at h
  · next hb => exact Option.some.inj h ▸ hb.symm
  · split at h
    · next hb => exact Option.some.inj h ▸ hb.symm
    · split at h
      · next hb => exact Option.some.inj h ▸ hb.symm
      · split at h
        · next hb => exact Option.some.inj h ▸ hb.symm
        · cases h

theorem FrameType.ofCode_code (k : FrameType) : FrameType.ofCode k.code = some k := by cases k <;> rfl

theorem FrameType.code_of_ofCode {b : Byte} {k : FrameType} (h : FrameType.ofCode b = some k) : k.code = b := by
  unfold FrameType.ofCode at h
  split at h
  · next hb => exact Option.some.inj h ▸ hb.symm
  split at h
  · next hb => exact Option.some.inj h ▸ hb.symm
  split at h
  · next hb => exact Option.some.inj h ▸ hb.symm
  split at h
  · next hb => exact Option.some.inj h ▸ hb.symm
  split at h
  · next hb => exact Option.some.inj h ▸ hb.symm
  split at h
  · next hb => exact Option.some.inj h ▸ hb.symm
  split at h
  · next hb => exact Option.some.inj h ▸ hb.symm
  split at h
  · next hb => exact Option.some.inj h ▸ hb.symm
  · cases h

/-! ## A frame's content through its checks (R75, R181) -/

theorem parseHello_body (h : Hello) : parseHello (LinkFrame.hello h).body = some (.hello h) := by
  obtain ⟨hzero, hcontinuity, hempty⟩ := helloFlags_fields h.continuity h.queueEmpty
  simp [LinkFrame.body, bytes16, parseHello, hzero, hcontinuity, hempty, helloRole_code, bytes16_join]

theorem parseData_body (seq : SeqNo) (p : Payload) (hwf : LinkFrame.wf (.data seq p) = true) :
    parseData (LinkFrame.data seq p).body = some (.data seq p) := by
  cases p with
  | line l m d =>
    have hm : m ≠ 0#64 := by simpa [LinkFrame.wf] using hwf
    have hlen := bytesMask_length m
    simp [LinkFrame.body, bytesLine, parseData, hlen, maskOfBytes_bytesMask, hm, lineField_bytesLine, lineOfBytes_toList]
  | image l d => simp [LinkFrame.body, bytesLine, parseData, lineField_bytesLine, lineOfBytes_toList]
  | marker t => simp [LinkFrame.body, bytes16, parseData, bytes16_join]

theorem parseContent_content {f : LinkFrame} (hwf : f.wf = true) : parseContent (f.type.code :: f.body) = some f := by
  unfold parseContent
  dsimp only
  rw [FrameType.ofCode_code]
  cases f with
  | hello h => exact parseHello_body h
  | start session mode =>
    have hs : session ≠ 0#16 := by simpa [LinkFrame.wf] using hwf
    simp [LinkFrame.type, LinkFrame.body, bytes16, parseStart, bytes16_join, sessionMode_code, hs]
  | ready session =>
    have hs : session ≠ 0#16 := by simpa [LinkFrame.wf] using hwf
    simp [LinkFrame.type, LinkFrame.body, bytes16, parseReady, bytes16_join, hs]
  | data seq p => exact parseData_body seq p hwf
  | ack n => rfl
  | nak n => rfl
  | idle => rfl
  | halt r => simp [LinkFrame.type, LinkFrame.body, haltReason_code]

theorem bytes32_length (w : BitVec 32) : (bytes32 w).length = 4 := rfl

/-- The checks on a content that its CRC follows are those of the content. -/
theorem checkFrame_sealed {content : List Byte} (hne : content ≠ []) :
    checkFrame (content ++ bytes32 (crc32 content)) = parseContent content := by
  have hpos := List.length_pos_iff.mpr hne
  generalize hcrc : bytes32 (crc32 content) = crc
  have hlen : crc.length = 4 := by rw [← hcrc, bytes32_length]
  have hlong : ¬(content ++ crc).length < 5 := by
    rw [List.length_append, hlen]
    omega
  have hcut : (content ++ crc).length - 4 = content.length := by rw [List.length_append, hlen, Nat.add_sub_cancel]
  rw [checkFrame, if_neg hlong, hcut]
  dsimp only
  rw [List.take_left, List.drop_left, if_pos hcrc.symm]

/-- What passes the checks is a content with its CRC behind it. -/
theorem sealed_of_checkFrame {bytes : List Byte} {f : LinkFrame} (h : checkFrame bytes = some f) :
    ∃ content, bytes = content ++ bytes32 (crc32 content) ∧ parseContent content = some f := by
  unfold checkFrame at h
  split at h
  · cases h
  · dsimp only at h
    split at h
    · next hcrc =>
      refine ⟨_, ?_, h⟩
      rw [← hcrc, List.take_append_drop]
    · cases h

/-- Settles O18, through the bytes and through the symbols. -/
theorem receiverReadsEveryFrameSent : Obligations.ReceiverReadsEveryFrameSent := by
  refine ⟨fun f hwf => ?checks, decodeSymbol_symbolCode, fun f => rfl, fun bytes => ⟨gather_bytes bytes [], rfl⟩, fun f => ?command⟩
  case checks => exact (checkFrame_sealed (List.cons_ne_nil _ _)).trans (parseContent_content hwf)
  case command => cases f <;> rfl

/-! ## The layout of what passes the checks -/

/-- A content is the layout of a well-formed frame. -/
def Lays (f : LinkFrame) (code : Byte) (body : List Byte) : Prop := f.wf = true ∧ code = f.type.code ∧ body = f.body

theorem layout_of_parseHello {body : List Byte} {f : LinkFrame} (h : parseHello body = some f) : Lays f FrameType.hello.code body := by
  unfold parseHello at h
  split at h
  · next role p1 p0 s1 s0 flags =>
    split at h
    · next hzero =>
      obtain ⟨r, hr, rfl⟩ := Option.map_eq_some_iff.mp h
      refine ⟨rfl, rfl, ?_⟩
      simp only [LinkFrame.body]
      rw [code_of_helloRole hr, bytes16_append, bytes16_append, helloFlags_of_fields hzero]
      rfl
    · cases h
  · cases h

theorem layout_of_parseStart {body : List Byte} {f : LinkFrame} (h : parseStart body = some f) : Lays f FrameType.start.code body := by
  unfold parseStart at h
  split at h
  · next s1 s0 mode =>
    split at h
    · cases h
    · next hne =>
      obtain ⟨m, hm, rfl⟩ := Option.map_eq_some_iff.mp h
      refine ⟨bne_iff_ne.mpr hne, rfl, ?_⟩
      simp only [LinkFrame.body]
      rw [bytes16_append, code_of_sessionMode hm]
      rfl
  · cases h

theorem layout_of_parseReady {body : List Byte} {f : LinkFrame} (h : parseReady body = some f) : Lays f FrameType.ready.code body := by
  unfold parseReady at h
  split at h
  · next s1 s0 =>
    split at h
    · cases h
    · next hne =>
      obtain rfl := Option.some.inj h
      exact ⟨bne_iff_ne.mpr hne, rfl, (bytes16_append s1 s0).symm⟩
  · cases h

theorem layout_of_parseData {body : List Byte} {f : LinkFrame} (h : parseData body = some f) : Lays f FrameType.data.code body := by
  unfold parseData at h
  split at h
  · next seq kind rest =>
    split at h
    · next hkind =>
      subst hkind
      split at h
      · next b2 b1 b0 tail =>
        split at h
        · next hlen =>
          split at h
          · cases h
          · next hmask =>
            obtain ⟨l, hl, rfl⟩ := Option.map_eq_some_iff.mp h
            refine ⟨bne_iff_ne.mpr hmask, rfl, ?_⟩
            have htake : (tail.take 8).length = 8 := by simp [hlen]
            have hdrop : (tail.drop 8).length = 64 := by simp [hlen]
            simp only [LinkFrame.body]
            rw [bytesLine_of_lineField hl, bytesMask_maskOfBytes htake, toList_lineOfBytes hdrop, List.take_append_drop]
            rfl
        · cases h
      · cases h
    · split at h
      · next hkind =>
        subst hkind
        split at h
        · next b2 b1 b0 tail =>
          split at h
          · next hlen =>
            obtain ⟨l, hl, rfl⟩ := Option.map_eq_some_iff.mp h
            refine ⟨rfl, rfl, ?_⟩
            simp only [LinkFrame.body]
            rw [bytesLine_of_lineField hl, toList_lineOfBytes hlen]
            rfl
          · cases h
        · cases h
      · split at h
        · next hkind =>
          subst hkind
          split at h
          · next t1 t0 =>
            obtain rfl := Option.some.inj h
            refine ⟨rfl, rfl, ?_⟩
            simp only [LinkFrame.body]
            rw [bytes16_append]
          · cases h
        · cases h
  · cases h

theorem layout_of_parseContent {content : List Byte} {f : LinkFrame} (h : parseContent content = some f) :
    f.wf = true ∧ content = f.type.code :: f.body := by
  unfold parseContent at h
  split at h
  · cases h
  · next code body =>
    have hlays : Lays f code body := by
      split at h
      · cases h
      · next hk => exact FrameType.code_of_ofCode hk ▸ layout_of_parseHello h
      · next hk => exact FrameType.code_of_ofCode hk ▸ layout_of_parseStart h
      · next hk => exact FrameType.code_of_ofCode hk ▸ layout_of_parseReady h
      · next hk => exact FrameType.code_of_ofCode hk ▸ layout_of_parseData h
      · next hk =>
        split at h
        · cases h
          exact ⟨rfl, (FrameType.code_of_ofCode hk).symm, rfl⟩
        · cases h
      · next hk =>
        split at h
        · cases h
          exact ⟨rfl, (FrameType.code_of_ofCode hk).symm, rfl⟩
        · cases h
      · next hk =>
        split at h
        · cases h
          exact ⟨rfl, (FrameType.code_of_ofCode hk).symm, rfl⟩
        · cases h
      · next hk =>
        split at h
        · obtain ⟨r, hr, rfl⟩ := Option.map_eq_some_iff.mp h
          exact ⟨rfl, (FrameType.code_of_ofCode hk).symm, by rw [LinkFrame.body, code_of_haltReason hr]⟩
        · cases h
    obtain ⟨hwf, hcode, hbody⟩ := hlays
    exact ⟨hwf, by rw [hcode, hbody]⟩

/-- Settles O19: the content is its frame's layout, and the CRC follows it. -/
theorem validBytesAreALayout : Obligations.ValidBytesAreALayout := by
  intro bytes f h
  obtain ⟨content, hbytes, hparse⟩ := sealed_of_checkFrame h
  obtain ⟨hwf, hcontent⟩ := layout_of_parseContent hparse
  refine ⟨hwf, ?_⟩
  rw [hbytes, hcontent]
  rfl

end Sys2Proof.Machine

/-! PROOF. The session end of a primary, block by block, and the link's loss (R45, R69, R88, R93). -/

namespace Sys2Proof.Machine

open Sys2Proof

set_option Elab.async false

/-! ## What a session end leaves of each block (R23, R45, R69, R148) -/

/-- The host port after a session end: a hold ends with DONE, a write in memory is unbound, one in SPACE_WAIT goes to PORT_WAIT, since
no journal is needed while the link is down (R10, R23). -/
def HostPort.afterSession (h : HostPort) : HostPort :=
  match h.state, h.noted, h.txn with
  | .syncHold, _, _ => { HostPort.idle with answer := some .doneWrite }
  | .inMemory, _, _ => { h with bound := false }
  | .spaceWait, some _, some _ => { h with state := .portWait, claim := false, timer := none }
  | _, _, _ => h

/-- The sweep after the link left UP (R69). -/
def Sweep.linkDown (w : Sweep) : Sweep :=
  match w.state with
  | .idle => w
  | .stopped => w
  | _ => { w with state := .idle, copy := none, request := false, stopPending := false,
                  read := w.read.map fun r => { r with current := false } }

/-- The block that a running copy gives back (R69). -/
def Sweep.givenBack (w : Sweep) : List Block :=
  match w.state with
  | .idle => []
  | .stopped => []
  | _ => (w.copy.map Copy.block).toList

theorem DirtyMap.set_cursor (m : DirtyMap) (b : Block) : (m.set b).cursor = m.cursor := by
  unfold DirtyMap.set
  split <;> rfl

theorem DirtyMap.foldl_set_cursor (bs : List Block) (m : DirtyMap) : (bs.foldl DirtyMap.set m).cursor = m.cursor := by
  induction bs generalizing m with
  | nil => rfl
  | cons b rest ih => exact (ih _).trans (m.set_cursor b)

theorem Sweep.mem_givenBack {b : Block} {w : Sweep} (hstate : w.state ≠ .idle) (hstopped : w.state ≠ .stopped) :
    b ∈ w.givenBack ↔ ∃ c, w.copy = some c ∧ c.block = b := by
  have heq : w.givenBack = (w.copy.map Copy.block).toList := by
    unfold Sweep.givenBack
    split
    · contradiction
    · contradiction
    · rfl
  simp [heq]

section
variable {s : State}

theorem State.needsJournal_of_down (hl : s.link.state ≠ .up) (b : Block) : s.needsJournal b = false := by
  simp [State.needsJournal, State.linkUp, hl]

/-- R10: with the link down the write that waits needs no journal. -/
theorem State.retestHost_of_down (hl : s.link.state ≠ .up) : s.retestHost = { s with host := s.retestHost.host } := by
  unfold State.retestHost
  split
  · next n t _ _ _ =>
    have hadmission : s.admission n (s.txnLine t) = .noJournal := by simp [State.admission, State.needsJournal_of_down hl]
    rw [hadmission]
    rfl
  · rfl

/-- With the link down the test made again looks at the host port alone. -/
theorem State.retestHost_host_of_down {t : State} (hs : s.link.state ≠ .up) (ht : t.link.state ≠ .up) (hhost : s.host = t.host) :
    s.retestHost.host = t.retestHost.host := by
  unfold State.retestHost
  rw [hhost]
  split
  · next n w _ _ _ =>
    have hleft : s.admission n (s.txnLine w) = .noJournal := by simp [State.admission, State.needsJournal_of_down hs]
    have hright : t.admission n (t.txnLine w) = .noJournal := by simp [State.admission, State.needsJournal_of_down ht]
    rw [hleft, hright]
    simp [State.toPortWait, hhost]
  · exact hhost

theorem State.releaseHold_host_congr {t : State} (hhost : s.host = t.host) : s.releaseHold.host = t.releaseHold.host := by
  unfold State.releaseHold
  rw [hhost]
  split
  · rfl
  · rfl
  · exact hhost

theorem State.releaseHold_retestHost (hl : s.link.state ≠ .up) : s.releaseHold.retestHost.host = s.host.afterSession := by
  unfold HostPort.afterSession
  split
  · next h =>
    have hrelease : s.releaseHold = s.answer .doneWrite := by simp [State.releaseHold, h]
    rw [hrelease, State.retestHost_of_not_waiting _ (by simp [State.answer, HostPort.idle])]
    rfl
  · next h =>
    have hrelease : s.releaseHold = { s with host := { s.host with bound := false } } := by simp [State.releaseHold, h]
    rw [hrelease, State.retestHost_of_not_waiting _ (by simp [h])]
  · next n t h hnoted htxn =>
    have hrelease : s.releaseHold = s := by simp [State.releaseHold, h]
    have hadmission : s.admission n (s.txnLine t) = .noJournal := by simp [State.admission, State.needsJournal_of_down hl]
    simp only [hrelease, State.retestHost, h, hnoted, htxn, hadmission]
    simp [State.toPortWait, hnoted, htxn]
  · next hhold hmemory hspace =>
    have hrelease : s.releaseHold = s := by
      unfold State.releaseHold
      split
      · next h => exact (hhold h).elim
      · next h => exact (hmemory h).elim
      · rfl
    rw [hrelease]
    unfold State.retestHost
    split
    · next n t h hnoted htxn => exact absurd htxn (hspace n t h hnoted)
    · rfl

theorem State.sweepLinkDown_sweep : s.sweepLinkDown.sweep = s.sweep.linkDown := by
  unfold State.sweepLinkDown Sweep.linkDown
  split
  · next h => simp [h]
  · next h => simp [h]
  · next hidle hstopped =>
    simp only [State.endCopy, State.withdrawRequest_sweep_eq]
    rw [s.remarkCopy_sweep_state_only]

theorem State.sweepLinkDown_map (hrole : s.role = .primary) :
    s.sweepLinkDown.map = s.sweep.givenBack.foldl DirtyMap.set s.map := by
  unfold State.sweepLinkDown Sweep.givenBack
  split
  · next h => simp [h]
  · next h => simp [h]
  · unfold State.remarkCopy
    split
    · next c hcopy => simp [State.setFlags_map _ _ hrole, hcopy]
    · next hcopy => simp [hcopy]

/-! ## The session end as a whole -/

theorem State.sessionEnd_host (hl : s.link.state ≠ .up) : s.sessionEnd.host = s.host.afterSession := by
  have hdown : s.sessionCleared.sweepLinkDown.link.state ≠ .up := by
    simpa [State.sessionCleared, State.hostSessionEnd] using hl
  have hhost : s.sessionCleared.sweepLinkDown.host = s.releaseHold.host := by
    simpa [State.sessionCleared, State.hostSessionEnd] using State.releaseHold_host_congr (by simp)
  calc s.sessionEnd.host = s.sessionCleared.sweepLinkDown.retestHost.host := by simp [State.sessionEnd_eq]
    _ = s.releaseHold.retestHost.host := State.retestHost_host_of_down hdown (by simpa using hl) hhost
    _ = s.host.afterSession := State.releaseHold_retestHost hl

theorem State.sessionEnd_sweep (hl : s.link.state ≠ .up) : s.sessionEnd.sweep = s.sweep.linkDown := by
  have hdown : s.sessionCleared.sweepLinkDown.link.state ≠ .up := by
    simpa [State.sessionCleared, State.hostSessionEnd] using hl
  calc s.sessionEnd.sweep = s.sessionCleared.sweepLinkDown.retestHost.sweep := by simp [State.sessionEnd_eq]
    _ = s.sessionCleared.sweepLinkDown.sweep := by rw [State.retestHost_of_down hdown]
    _ = s.sweep.linkDown := by rw [State.sweepLinkDown_sweep, State.sessionCleared_sweep hl]

theorem State.sessionEnd_map (hrole : s.role = .primary) (hl : s.link.state ≠ .up) :
    s.sessionEnd.map = (s.journal.records.filterMap Record.block? ++ s.sweep.givenBack).foldl DirtyMap.set s.map := by
  have hmap : s.sessionCleared.map = (s.journal.records.filterMap Record.block?).foldl DirtyMap.set s.map := by
    simp [State.sessionCleared, State.hostSessionEnd, State.setFlags_map _ _ hrole]
  calc s.sessionEnd.map = s.sessionCleared.sweepLinkDown.map := by simp [State.sessionEnd_eq]
    _ = s.sessionCleared.sweep.givenBack.foldl DirtyMap.set s.sessionCleared.map :=
      State.sweepLinkDown_map (by simpa [State.sessionCleared, State.hostSessionEnd] using hrole)
    _ = _ := by rw [State.sessionCleared_sweep hl, hmap, List.foldl_append]

/-- R45, R69: the blocks dirty after a session end. -/
theorem State.mem_sessionEnd_flags_iff {b : Block} (hrole : s.role = .primary) (hl : s.link.state ≠ .up) :
    b ∈ s.sessionEnd.map.flags ↔ b ∈ s.map.flags ∨ b ∈ s.journal.records.filterMap Record.block? ∨ b ∈ s.sweep.givenBack := by
  rw [State.sessionEnd_map hrole hl, DirtyMap.mem_foldl_set_flags, List.mem_append]
  exact or_comm

theorem State.sessionEnd_cursor (hrole : s.role = .primary) (hl : s.link.state ≠ .up) :
    s.sessionEnd.map.cursor = s.map.cursor := by
  rw [State.sessionEnd_map hrole hl, DirtyMap.foldl_set_cursor]

/-- R149: with room for all of them the tags failed join the results in order. -/
theorem failTags_results (ts : List Tag) (h : s.pair.results.length + ts.length ≤ 8) :
    (failTags ts s).pair.results = s.pair.results ++ ts.map fun tag => { tag := tag, outcome := .failed } := by
  induction ts generalizing s with
  | nil => simp [failTags]
  | cons t rest ih =>
    have hroom : s.pair.results.length + 1 + rest.length ≤ 8 := by simpa [Nat.add_assoc, Nat.add_comm 1] using h
    have hresults : (s.addResult { tag := t, outcome := .failed }).pair.results =
        s.pair.results ++ [{ tag := t, outcome := .failed }] := by
      simp only [State.addResult, Config.markerSlots]
      rw [Nat.sub_eq_zero_of_le (by omega), List.drop_zero]
    have hnext := ih (s := (s.addResult { tag := t, outcome := .failed }).report .markerFailed)
      (by simpa [hresults] using hroom)
    simpa [failTags, hresults] using hnext

theorem State.sessionEnd_results (h : s.pair.results.length + s.pair.outstanding.length ≤ 8) :
    s.sessionEnd.pair.results = s.pair.results ++ s.pair.outstanding.map fun tag => { tag := tag, outcome := .failed } := by
  rw [State.sessionEnd_pair, State.failMarkers]
  simpa using failTags_results (s := { s.setFlags (s.journal.records.filterMap Record.block?) with
    pair := { s.pair with outstanding := [] } }) s.pair.outstanding (by simpa using h)

/-! ## The end of an event while no record can be sent (R78, R99, R141) -/

/-- A transmitter whose sender is inactive changes its own frame and due flags alone. -/
theorem State.kick_of_inactive (h : s.senderActive = false) : s.kick = { s with link := s.kick.link } := by
  obtain ⟨tx, due, hkick⟩ | ⟨f, t, hdata, -⟩ := s.kick_cases
  · rw [hkick]
  · have hnone := State.dataFrame_isNone_of_inactive h
    simp [hdata] at hnone

theorem State.finish_of_inactive (h : s.senderActive = false) :
    s.finish = { s with link := s.finish.link, pair := s.finish.pair, alert := s.finish.alert } := by
  have hkick : s.derivePair.kick = { s.derivePair with link := s.derivePair.kick.link } :=
    State.kick_of_inactive (by simpa [State.senderActive, State.linkUp] using h)
  rw [State.finish, hkick, s.derivePair_frame]

theorem State.senderActive_of_down (hl : s.link.state ≠ .up) : s.senderActive = false := by
  simp [State.senderActive, State.linkUp, hl]

theorem State.senderActive_of_not_primary (hrole : s.role ≠ .primary) : s.senderActive = false := by
  simp [State.senderActive, hrole]

/-! ## The link's loss (R88, R93, R94) -/

theorem State.departUp_cause {c : AlertCause} (hm : .markerFailed ≠ c) (hj : .journalHigh ≠ c) (dest : LinkState) :
    (s.departUp dest).cause c = s.cause c := by
  simp only [State.departUp]
  split
  · exact State.sessionEnd_cause hm hj _
  · rfl

theorem State.loseLink_cause : s.loseLink.cause .linkLost = (s.cause .linkLost).occur := by
  rw [State.loseLink, State.report_cause_same]
  exact congrArg Cause.occur (State.departUp_cause (by decide) (by decide) _)

/-- R94: elsewhere than on a primary the link's loss is the link's own. -/
theorem State.loseLink_of_not_primary (hrole : s.role ≠ .primary) :
    s.loseLink = { s with link := s.loseLink.link, alert := s.loseLink.alert } := by
  simp only [State.loseLink, State.departUp, if_neg hrole]
  rfl

/-- R93: on a primary the session ends with the link already out of UP. -/
theorem State.loseLink_of_primary (hrole : s.role = .primary) :
    s.loseLink = ((s.setLink .training).sessionEnd.beginEpisode).report .linkLost := by
  simp only [State.loseLink, State.departUp, if_pos hrole]

theorem State.loseLink_down : s.loseLink.link.state ≠ .up := by
  rw [State.loseLink_link]
  exact (by decide : LinkState.training ≠ .up)

/-- What the end of the event in which the link is lost can change. -/
theorem State.loseLink_finish_frame :
    let u := s.loseLink.finish
    u = { s with link := u.link, journal := u.journal, sender := u.sender, map := u.map, sweep := u.sweep, host := u.host,
                 pair := u.pair, alert := u.alert, mem := { s.mem with sweepWait := u.mem.sweepWait } } := by
  intro u
  have hfinish : u = { s.loseLink with link := u.link, pair := u.pair, alert := u.alert } :=
    State.finish_of_inactive (State.senderActive_of_down State.loseLink_down)
  rw [s.loseLink_frame] at hfinish
  rw [hfinish]

/-- The link at the end of the event in which it is lost: in the HELLO phase of TRAINING, its session values as they were (R76, R77). -/
theorem State.finish_loseLink_link (s : State) :
    s.loseLink.finish.link =
      { s.link with state := .training, phase := .hello, conflictReported := false, repeatRun := true, keepaliveRun := false, silence := none,
                    tx := s.loseLink.finish.link.tx, due := s.loseLink.finish.link.due } := by
  have hkick : s.loseLink.finish.link =
      { s.loseLink.link with tx := s.loseLink.finish.link.tx, due := s.loseLink.finish.link.due } := by
    simpa [State.finish] using s.loseLink.derivePair.kick_link
  rw [hkick, s.loseLink_link]
  rfl

theorem exec_silence {l : Nat} (hs : s.Runs) (htimer : s.link.silence = some l) : exec .silenceTimerExpiry s = .next s.loseLink.finish := by
  change execSilenceTimerExpiry s = _
  rw [execSilenceTimerExpiry, State.awake_of_runs hs]
  simp only [htimer]

end

/-- The link's loss on a primary, to the end of its event: the session end, and then the link, the pair state and the alerts. -/
theorem State.loseLink_finish_of_primary {s : State} (hrole : s.role = .primary) :
    let u := s.loseLink.finish
    u = { (s.setLink .training).sessionEnd with link := u.link, pair := u.pair, alert := u.alert } ∧
    u.pair = { (s.setLink .training).sessionEnd.pair with state := u.pair.state } := by
  intro u
  constructor
  · have hfinish : u = { s.loseLink with link := u.link, pair := u.pair, alert := u.alert } :=
      State.finish_of_inactive (State.senderActive_of_down State.loseLink_down)
    rw [State.loseLink_of_primary hrole] at hfinish
    exact hfinish
  · have hpair : u.pair = s.loseLink.derivePair.pair := State.kick_pair _
    rw [hpair, State.derivePair_state, State.loseLink_of_primary hrole]
    rfl

theorem SweepState.running_iff {x : SweepState} : x = .copying ∨ x = .waiting ∨ x = .scanning ↔ x ≠ .idle ∧ x ≠ .stopped := by
  cases x <;> decide

theorem Sweep.linkDown_of_running {w : Sweep} (hidle : w.state ≠ .idle) (hstopped : w.state ≠ .stopped) :
    w.linkDown = { w with state := .idle, copy := none, request := false, stopPending := false,
                          read := w.read.map fun r => { r with current := false } } := by
  unfold Sweep.linkDown
  split
  · contradiction
  · contradiction
  · rfl

theorem Sweep.linkDown_of_rest {w : Sweep} (h : w.state = .stopped ∨ w.state = .idle) : w.linkDown = w := by
  unfold Sweep.linkDown
  rcases h with h | h <;> rw [h]

theorem Sweep.mem_givenBack_iff {b : Block} {w : Sweep} :
    b ∈ w.givenBack ↔ (w.state = .copying ∨ w.state = .waiting ∨ w.state = .scanning) ∧ ∃ c, w.copy = some c ∧ c.block = b := by
  rw [SweepState.running_iff]
  by_cases hrun : w.state ≠ .idle ∧ w.state ≠ .stopped
  · rw [Sweep.mem_givenBack hrun.1 hrun.2, and_iff_right hrun]
  · have hnone : w.givenBack = [] := by
      unfold Sweep.givenBack
      split
      · rfl
      · rfl
      · next hidle hstopped => exact absurd ⟨hidle, hstopped⟩ hrun
    simp only [hnone, List.not_mem_nil, hrun, false_and]

theorem HostPort.afterSession_of_rest {h : HostPort} (hstate : h.state = .portWait ∨ h.state = .idle) : h.afterSession = h := by
  unfold HostPort.afterSession
  rcases hstate with hstate | hstate <;> rw [hstate]

/-- Settles O38: the link's loss, whose session end on a primary goes block by block. -/
theorem silenceEndsTheSession : Obligations.SilenceEndsTheSession := by
  intro s l hs htimer hup
  have hcause : s.loseLink.finish.cause .linkLost = (s.cause .linkLost).occur := by
    rw [State.finish_cause (by decide) (by decide), State.loseLink_cause]
  have hlink := State.finish_loseLink_link s
  refine ⟨_, exec_silence hs htimer, by rw [hlink], by rw [hlink], by rw [hlink], by rw [hlink], by rw [hlink], by rw [hlink], hcause,
    by rw [hlink], by rw [hlink], by rw [hlink], by rw [hlink], State.finish_derived, State.loseLink_finish_frame, ?_, ?_⟩
  case refine_1 =>
    intro hrole
    obtain ⟨hend, hpair⟩ := State.loseLink_finish_of_primary hrole
    have hdown : (s.setLink .training).link.state ≠ .up := by simp [State.setLink]
    have hsweep : s.loseLink.finish.sweep = s.sweep.linkDown := by
      rw [hend]
      exact State.sessionEnd_sweep hdown
    have hhost : s.loseLink.finish.host = s.host.afterSession := by
      rw [hend]
      exact State.sessionEnd_host hdown
    have hmap : s.loseLink.finish.map = (s.setLink .training).sessionEnd.map := by rw [hend]
    rw [hpair, hsweep, hhost, hmap]
    refine ⟨by rw [hend]; exact State.sessionEnd_records _, by rw [hend]; exact State.sessionEnd_sender _, fun b => ?_,
      State.sessionEnd_cursor hrole hdown, State.sessionEnd_outstanding _, fun hroom => State.sessionEnd_results (s := s.setLink .training) hroom, Sweep.linkDown_of_rest,
      fun hstopped hidle => ?_, fun hhold => by simp [HostPort.afterSession, hhold],
      fun hmemory => by simp [HostPort.afterSession, hmemory], HostPort.afterSession_of_rest,
      fun n t hspace hnoted htxn => by simp [HostPort.afterSession, hspace, hnoted, htxn]⟩
    · rw [← Sweep.mem_givenBack_iff]
      exact State.mem_sessionEnd_flags_iff (s := s.setLink .training) hrole hdown
    · rw [Sweep.linkDown_of_running hidle hstopped]
      simp
  case refine_2 =>
    intro hrole
    have hfinish := State.finish_of_inactive (State.senderActive_of_down (State.loseLink_down (s := s)))
    rw [State.loseLink_of_not_primary hrole] at hfinish ⊢
    exact hfinish

end Sys2Proof.Machine

/-! PROOF. The parameters and the commands that read and write them (R163, R164, Tables 8.4 and 10.5). -/

namespace Sys2Proof.Machine

open Sys2Proof

set_option Elab.async false

/-! ## Identifiers and ranges (Tables 8.4 and 10.5) -/

/-- A parameter's identifier (Table 10.5). -/
def Param.ident : Param → Byte
  | .windowBase => 0x00
  | .pairId => 0x01
  | .windowSize => 0x02
  | .memLimit => 0x03
  | .holdLimit => 0x04
  | .retxInterval => 0x05
  | .retryLimit => 0x06
  | .silenceLimit => 0x07
  | .journalReserve => 0x08
  | .highWater => 0x09
  | .lowWater => 0x0A
  | .sweepShare => 0x0B
  | .applyBurst => 0x0C
  | .autoRepair => 0x0D

theorem Param.ofId_ident (p : Param) : Param.ofId p.ident = some p := by cases p <;> rfl

theorem Param.eq_ident_of_ofId {ident : Byte} {p : Param} (h : Param.ofId ident = some p) : ident = p.ident := by
  unfold Param.ofId at h
  split at h
  all_goals cases h <;> exact BitVec.eq_of_toNat_eq ‹_›

theorem Param.ofId_iff {ident : Byte} {p : Param} : Param.ofId ident = some p ↔ ident = p.ident :=
  ⟨Param.eq_ident_of_ofId, fun h => h ▸ Param.ofId_ident p⟩

theorem Param.ident_le (p : Param) : p.ident.toNat ≤ 13 := by cases p <;> decide

theorem Param.ofId_of_gt {ident : Byte} (h : 13 < ident.toNat) : Param.ofId ident = none := by
  refine Option.eq_none_iff_forall_ne_some.mpr fun p hp => ?_
  rw [Param.ofId_iff.mp hp] at h
  exact Nat.not_lt.mpr p.ident_le h

theorem Param.mem_identifiers {ident : Byte} {p : Param} :
    (ident, p) ∈ ([(0x00, .windowBase), (0x01, .pairId), (0x02, .windowSize), (0x03, .memLimit),
      (0x04, .holdLimit), (0x05, .retxInterval), (0x06, .retryLimit), (0x07, .silenceLimit), (0x08, .journalReserve), (0x09, .highWater),
      (0x0A, .lowWater), (0x0B, .sweepShare), (0x0C, .applyBurst), (0x0D, .autoRepair)] : List (Byte × Param)) ↔ ident = p.ident := by
  cases p <;> simp [Param.ident]

theorem Param.inRange_windowBase (v : BitVec 32) : Param.windowBase.inRange v = true ↔ v.extractLsb' 0 28 = 0 := by
  simp [Param.inRange]

theorem Param.inRange_between :
    ∀ range ∈ ([(.pairId, 0, 65535), (.windowSize, 1, 32), (.memLimit, 1, 255), (.holdLimit, 10, 10000), (.retxInterval, 50, 20000),
      (.retryLimit, 1, 15), (.silenceLimit, 1, 100), (.journalReserve, 8, 128), (.highWater, 64, 255), (.lowWater, 0, 254),
      (.sweepShare, 1, 16), (.applyBurst, 1, 8), (.autoRepair, 0, 1)] : List (Param × Nat × Nat)),
    ∀ v : BitVec 32, range.1.inRange v = true ↔ range.2.1 ≤ v.toNat ∧ v.toNat ≤ range.2.2 := by
  simp [Param.inRange]

/-! ## Values stored and read back (R163, R164) -/

theorem Params.get_put_same {ps : Params} {p : Param} {v : BitVec 32} (h : p.inRange v = true) : (ps.put p v).get p = v := by
  cases p
  case windowBase => rfl
  case pairId =>
    have hv : v.toNat ≤ 65535 := by simpa [Param.inRange] using h
    refine BitVec.eq_of_toNat_eq ?_
    simp [Params.get, Params.put]
    omega
  case autoRepair =>
    have hv : v.toNat ≤ 1 := by simpa [Param.inRange] using h
    obtain rfl | rfl : v = 0 ∨ v = 1 := by bv_omega
    · rfl
    · rfl
  all_goals simp [Params.get, Params.put]

theorem Params.get_put_of_ne {ps : Params} {p q : Param} {v : BitVec 32} (h : q ≠ p) : (ps.put p v).get q = ps.get q := by
  cases p <;> cases q <;> first | rfl | exact absurd rfl h

/-! ## The commands' conditions in order -/

section
variable {s : State} {ident : Byte} {p : Param} {v : BitVec 32}

theorem readParamAct_of_gt (h : 13 < ident.toNat) : readParamAct ident s = refuse .badArg s := by
  simp [readParamAct, Param.ofId_of_gt h]

theorem readParamAct_of_param (hp : Param.ofId ident = some p) : readParamAct ident s = answerWith (bytes32 (s.params.get p)) s := by
  simp [readParamAct, hp]

theorem writeParamAct_of_gt (h : 13 < ident.toNat) : writeParamAct ident v s = refuse .badArg s := by
  simp [writeParamAct, Param.ofId_of_gt h]

theorem writeParamAct_of_range (hp : Param.ofId ident = some p) (hrange : p.inRange v = false) :
    writeParamAct ident v s = refuse .badArg s := by
  simp [writeParamAct, hp, hrange]

theorem writeParamAct_of_unrelated (hp : Param.ofId ident = some p) (hrange : p.inRange v = true)
    (hrelated : p.related s.params v = false) : writeParamAct ident v s = refuse .badArg s := by
  simp [writeParamAct, hp, hrange, hrelated]

theorem writeParamAct_of_frozen (hp : Param.ofId ident = some p) (hrange : p.inRange v = true)
    (hrelated : p.related s.params v = true) (hwritable : s.paramWritable p = false) : writeParamAct ident v s = refuse .badState s := by
  simp [writeParamAct, hp, hrange, hrelated, hwritable]

theorem writeParamAct_of_good (hp : Param.ofId ident = some p) (hrange : p.inRange v = true)
    (hrelated : p.related s.params v = true) (hwritable : s.paramWritable p = true) :
    writeParamAct ident v s = accept (State.afterParam p v { s with params := s.params.put p v }) := by
  simp [writeParamAct, hp, hrange, hrelated, hwritable]

theorem Param.related_iff {ps : Params} :
    p.related ps v = true ↔ (p = .highWater → ps.lowWater < v.toNat) ∧ (p = .lowWater → v.toNat < ps.highWater) := by
  cases p <;> simp [Param.related]

theorem State.paramWritable_iff : s.paramWritable p = true ↔
    (p = .windowBase ∨ p = .pairId → s.role = .standalone) ∧ (p = .windowSize → s.link.state ≠ .up) := by
  cases p <;> simp [State.paramWritable]

/-- R59: AUTO_REPAIR just made 1 starts an IDLE sweep of a Primary in UP that has a dirty block. -/
theorem State.autoStart_of_autoRepair (hauto : s.params.autoRepair = true) :
    s.autoStart =
      if s.role = .primary ∧ s.link.state = .up ∧ s.sweep.state = .idle ∧ 1 ≤ s.map.count then
        { s with sweep := { s.sweep with state := .scanning } }
      else s := by
  by_cases h : s.role = .primary ∧ s.link.state = .up ∧ s.sweep.state = .idle ∧ 1 ≤ s.map.count
  · obtain ⟨hrole, hup, hidle, hcount⟩ := h
    have hne : s.map.count ≠ 0 := by omega
    simp [State.autoStart, State.enterScanning, State.linkUp, hrole, hup, hidle, hauto, hcount, hne]
  · have hstart : ¬(s.role = .primary ∧ s.linkUp ∧ s.sweep.state = .idle ∧ s.params.autoRepair ∧ 1 ≤ s.map.count) := by
      rintro ⟨hrole, hup, hidle, -, hcount⟩
      exact h ⟨hrole, by simpa [State.linkUp] using hup, hidle, hcount⟩
    rw [if_neg h, State.autoStart, if_neg hstart]

theorem State.afterParam_of_plain (hhigh : p ≠ .highWater) (hlow : p ≠ .lowWater) (hauto : p ≠ .autoRepair) : s.afterParam p v = s := by
  cases p <;> first | rfl | contradiction

theorem State.afterParam_of_mark (h : p = .highWater ∨ p = .lowWater) : s.afterParam p v = s.waterTest := by
  rcases h with rfl | rfl
  · rfl
  · rfl

end

/-- Settles O51: the tables of identifiers and ranges, and each command by the first of its conditions that decides. -/
theorem parameterCommandsReadAndWrite : Obligations.ParameterCommandsReadAndWrite := by
  refine ⟨fun ident p => Param.ofId_iff.trans Param.mem_identifiers.symm, Param.inRange_windowBase, Param.inRange_between,
    fun s ident => ⟨fun hgt => ⟨fun ht => State.takeCommand_of_act ht (readParamAct_of_gt hgt),
      fun v ht => State.takeCommand_of_act ht (writeParamAct_of_gt hgt)⟩, fun p hp =>
      ⟨fun ht => State.takeCommand_of_act ht (readParamAct_of_param hp), fun v ht => ?_⟩⟩⟩
  dsimp only
  refine ⟨fun hrange => State.takeCommand_of_act ht (writeParamAct_of_range hp hrange), fun hrange hmark => ?_,
    fun hrange hallowed => ?_, fun hrange hhigh hlow hallowed => ?_⟩
  case refine_1 =>
    refine State.takeCommand_of_act ht (writeParamAct_of_unrelated hp hrange ?_)
    rw [Bool.eq_false_iff, Ne, Param.related_iff]
    rintro ⟨hhigh, hlow⟩
    rcases hmark with ⟨h, hle⟩ | ⟨h, hle⟩
    · exact Nat.not_lt.mpr hle (hhigh h)
    · exact Nat.not_lt.mpr hle (hlow h)
  case refine_2 =>
    have hrelated : p.related s.params v = true := by
      refine Param.related_iff.mpr ⟨?_, ?_⟩
      · rintro rfl
        exact (hallowed (by simp)).elim
      · rintro rfl
        exact (hallowed (by simp)).elim
    refine State.takeCommand_of_act ht (writeParamAct_of_frozen hp hrange hrelated ?_)
    rw [Bool.eq_false_iff, Ne, State.paramWritable_iff]
    exact hallowed
  case refine_3 =>
    have hgood := writeParamAct_of_good hp hrange (Param.related_iff.mpr ⟨hhigh, hlow⟩) (State.paramWritable_iff.mpr hallowed)
    refine ⟨Params.get_put_same hrange, fun q hq => Params.get_put_of_ne hq, fun h₁ h₂ h₃ => ?_, fun hmark => ?_, ?_, ?_⟩
    · rw [State.afterParam_of_plain h₁ h₂ h₃] at hgood
      exact State.takeCommand_of_act ht hgood
    · rw [State.afterParam_of_mark hmark] at hgood
      exact State.takeCommand_of_act ht hgood
    · rintro rfl rfl
      exact State.takeCommand_of_act ht hgood
    · rintro rfl rfl
      have hafter : State.afterParam .autoRepair 1 { s with params := s.params.put .autoRepair 1 } =
          (State.autoStart { s with params := s.params.put .autoRepair 1 }).derivePair := rfl
      rw [hafter, State.autoStart_of_autoRepair (by rfl)] at hgood
      exact State.takeCommand_of_act ht hgood

end Sys2Proof.Machine

/-! PROOF. Changes of role: SET ROLE, PROMOTE, and with them RELINK and CLEAR FAULT (R95, R129, R132, R137 to R140). -/

namespace Sys2Proof.Machine

open Sys2Proof

set_option Elab.async false

section
variable {s : State}

/-! ## Into a pair (R138, R139) -/

theorem State.hostWriteToMirrored_iff : s.hostWriteToMirrored = true ↔ ∃ t ∈ s.hostUse, s.touchedMirrored t ≠ [] := by
  simp [State.hostWriteToMirrored, Option.any_eq_true]

theorem State.becomeReplica_frame :
    let u := s.becomeReplica
    u = { s with role := .replica, mem := { s.mem with sweepWait := 0, applyRun := 0 }, link := u.link, pair := u.pair, alert := u.alert } :=
  State.finish_of_inactive (s := (State.restartCounts { s with role := .replica }).enterTraining)
    (State.senderActive_of_not_primary (by simp [State.restartCounts]))

theorem State.becomePrimary_frame :
    let u := s.becomePrimary
    u = { s with role := .primary, mem := { s.mem with sweepWait := 0, applyRun := 0 },
                 map := { flags := mirroredBlocks s.regions, count := (mirroredBlocks s.regions).length, cursor := 0 },
                 link := u.link, pair := u.pair, alert := u.alert } :=
  State.finish_of_inactive (s := (State.restartCounts { s with role := .primary }).fillMap.enterTraining)
    (State.senderActive_of_down (by simp [State.enterTraining, State.beginEpisode, State.setLink]))

/-! ## Out of role Primary (R24, R93, R96, R140) -/

theorem State.linkLeavePrimary_host (hrole : s.role = .primary) :
    s.linkLeavePrimary.host = if s.link.state = .up then s.host.afterSession else s.host := by
  unfold State.linkLeavePrimary
  by_cases hup : s.link.state = .up
  · simp only [State.linkUp, hup, beq_self_eq_true, if_true, State.departUp, State.dueHalt, hrole]
    exact State.sessionEnd_host (by simp [State.setLink])
  · simp [State.linkUp, hup, State.setLink]

theorem HostPort.leavePrimary_afterSession (h : HostPort) :
    h.afterSession.leavePrimary = if h.state = .syncHold then { HostPort.idle with answer := some .doneWrite } else h.leavePrimary := by
  unfold HostPort.afterSession
  split
  · next hstate => simp [hstate, HostPort.leavePrimary, HostPort.idle]
  · next hstate => simp [hstate, HostPort.leavePrimary]
  · next hstate _ _ => simp [hstate, HostPort.leavePrimary]
  · next hhold _ _ => rw [if_neg hhold]

theorem State.linkLeavePrimary_link : s.linkLeavePrimary.link =
    { ((if s.link.state = .up then s.dueHalt .roleChange else s).setLink .off).link with lastSession := 0 } := by
  unfold State.linkLeavePrimary
  by_cases hup : s.link.state = .up
  · simp only [State.linkUp, hup, beq_self_eq_true, if_true, State.departUp_link]
  · simp [State.linkUp, hup]

theorem MemPort.abandonSweep_restarted (m : MemPort) (k : Nat) :
    ({ ({ m with sweepWait := k } : MemPort).abandonSweep with sweepWait := 0, applyRun := 0 } : MemPort) =
      { m.abandonSweep with sweepWait := 0, applyRun := 0 } := by
  unfold MemPort.abandonSweep
  dsimp only
  split
  · split <;> rfl
  · rfl

/-- The part that has left role Primary, before the end of the event. -/
def State.leftPrimary (s : State) : State :=
  State.resetSender (State.failMarkers
    { s.linkLeavePrimary with
      role := .standalone, host := s.linkLeavePrimary.host.leavePrimary,
      mem := { s.linkLeavePrimary.mem.abandonSweep with sweepWait := 0, applyRun := 0 },
      sweep := Sweep.powerOn, map := DirtyMap.clean, journal := Journal.powerOn })

theorem State.leavePrimary_eq : s.leavePrimary = s.leftPrimary.finish := rfl

theorem State.leftPrimary_frame :
    s.leftPrimary =
      { s with role := .standalone, link := s.linkLeavePrimary.link, journal := Journal.powerOn, map := DirtyMap.clean,
               sweep := Sweep.powerOn, sender := Sender.powerOn, mem := { s.mem.abandonSweep with sweepWait := 0, applyRun := 0 },
               host := s.linkLeavePrimary.host.leavePrimary, pair := s.leftPrimary.pair, alert := s.leftPrimary.alert } := by
  have hmem : ({ s.linkLeavePrimary.mem.abandonSweep with sweepWait := 0, applyRun := 0 } : MemPort) =
      { s.mem.abandonSweep with sweepWait := 0, applyRun := 0 } := by
    rw [s.linkLeavePrimary_frame]
    exact s.mem.abandonSweep_restarted _
  have hframe := s.linkLeavePrimary_frame
  unfold State.leftPrimary
  rw [hmem]
  generalize s.linkLeavePrimary = l at hframe ⊢
  rw [hframe, State.failMarkers_frame]
  rfl

theorem State.leavePrimary_frame :
    let u := s.leavePrimary
    u = { s with role := .standalone, link := u.link, journal := Journal.powerOn, map := DirtyMap.clean,
                 sweep := Sweep.powerOn, sender := Sender.powerOn, mem := { s.mem.abandonSweep with sweepWait := 0, applyRun := 0 },
                 host := s.linkLeavePrimary.host.leavePrimary, pair := u.pair, alert := u.alert } := by
  have hrole : s.leftPrimary.role ≠ .primary := by
    rw [State.leftPrimary_frame]
    exact (by decide : Role.standalone ≠ .primary)
  have hfinish : s.leavePrimary = { s.leftPrimary with link := s.leavePrimary.link, pair := s.leavePrimary.pair,
                                                        alert := s.leavePrimary.alert } :=
    State.finish_of_inactive (State.senderActive_of_not_primary hrole)
  intro u
  rw [State.leftPrimary_frame] at hfinish
  exact hfinish

theorem State.finish_link (s : State) : s.finish.link = { s.link with tx := s.finish.link.tx, due := s.finish.link.due } := by
  simpa [State.finish] using s.derivePair.kick_link

theorem State.finish_pair (s : State) : s.finish.pair = { s.pair with state := s.derivedPair } :=
  (State.kick_pair _).trans s.derivePair_state

theorem State.leavePrimary_link : s.leavePrimary.link =
    { s.linkLeavePrimary.link with tx := s.leavePrimary.link.tx, due := s.leavePrimary.link.due } := by
  have hlink := s.leftPrimary.finish_link
  rwa [← State.leavePrimary_eq, s.leftPrimary_frame] at hlink

theorem State.pairState_alone_of_finish {t : State} (hrole : t.role ≠ .primary) : t.finish.pair.state = .alone := by
  rw [State.finish_derived]
  exact State.derivedPair_of_not_primary (by simpa using hrole)

theorem State.leavePrimary_pairState (s : State) : s.leavePrimary.pair.state = .alone := by
  refine State.pairState_alone_of_finish (t := s.leftPrimary) ?_
  rw [s.leftPrimary_frame]
  exact (by decide : Role.standalone ≠ .primary)

theorem State.leavePrimary_outstanding : s.leavePrimary.pair.outstanding = [] := by
  rw [State.leavePrimary_eq, State.finish_pair]
  exact State.failMarkers_outstanding _

/-- R93, R96: the link is OFF with its timers stopped, and a departure from UP leaves its reason in the halt record. -/
theorem State.leavePrimary_link_values :
    let l := s.leavePrimary.link
    l.state = .off ∧ l.lastSession = 0 ∧ l.repeatRun = false ∧ l.keepaliveRun = false ∧ l.silence = none ∧
    l.haltRecord = if s.link.state = .up then some { reason := .roleChange, direction := .sent } else s.link.haltRecord := by
  dsimp only
  rw [State.leavePrimary_link, State.linkLeavePrimary_link]
  refine ⟨rfl, rfl, rfl, rfl, rfl, ?_⟩
  split
  · rfl
  · rfl

theorem State.leavePrimary_host (hrole : s.role = .primary) :
    s.leavePrimary.host = (if s.link.state = .up then s.host.afterSession else s.host).leavePrimary := by
  rw [State.leavePrimary_frame, State.linkLeavePrimary_host hrole]

theorem State.leavePrimary_host_of_free (hrole : s.role = .primary) (hfree : s.host.state ≠ .syncHold) :
    s.leavePrimary.host = s.host.leavePrimary := by
  rw [State.leavePrimary_host hrole]
  split
  · rw [HostPort.leavePrimary_afterSession, if_neg hfree]
  · rfl

/-- R21: a line read in memory is given up, and any other use of the memory port runs on. -/
theorem MemPort.abandonSweep_of_use {m : MemPort} {p : PortUse} (huse : m.use = some p) :
    m.abandonSweep.use = if p.owner = .sweep then none else some p := by
  simp only [MemPort.abandonSweep, huse]
  split
  · rfl
  · exact huse

/-- From UP the HALT of the role change is begun by a free transmitter, and waits behind a busy one (R93). -/
theorem State.leavePrimary_halt (hup : s.link.state = .up) :
    (s.link.tx = none → s.leavePrimary.link.tx = some (.halt .roleChange)) ∧
    (s.link.tx.isSome = true → s.leavePrimary.link.tx = s.link.tx ∧ s.leavePrimary.link.due.halt = some .roleChange) := by
  have hlink : s.leftPrimary.link = { ((s.dueHalt .roleChange).setLink .off).link with lastSession := 0 } := by
    rw [s.leftPrimary_frame]
    exact State.linkLeavePrimary_link.trans (by rw [if_pos hup])
  constructor
  · intro htx
    exact (State.finish_tx_of_halt_due (s := s.leftPrimary) (r := .roleChange) (by rw [hlink]; rfl) (by rw [hlink]; exact htx)).1
  · intro htx
    have hbusy : s.leavePrimary.link = s.leftPrimary.link :=
      State.finish_link_of_busy (s := s.leftPrimary) (by rw [hlink]; exact htx)
    rw [hbusy, hlink]
    exact ⟨rfl, rfl⟩

/-! ## SET ROLE by its target and the present role (R137, Table 7.1) -/

theorem roleTarget_of_gt {target : Byte} (h : 2 < target.toNat) : roleTarget target = none := by
  have hne (b : Byte) (hb : b.toNat ≤ 2) : target ≠ b := by
    rintro rfl
    omega
  simp [roleTarget, hne]

theorem roleTarget_of_le {target : Byte} (h : target.toNat ≤ 2) :
    target = 0x00 ∨ target = 0x01 ∨ target = 0x02 := by bv_omega

end

/-- Settles O52: the cells of Table 7.1, and the two changes into a pair and the one out of role Primary. -/
theorem setRoleFollowsItsTable : Obligations.SetRoleFollowsItsTable := by
  intro s target ht
  refine ⟨fun hgt => ?_, fun hsame => ?_, fun hforbidden => ?_, ?_, ?_, ?_, ?_⟩
  case refine_1 => exact State.takeCommand_of_act ht (r := refuse .badArg s) (by simp [setRoleAct, roleTarget_of_gt hgt])
  case refine_2 =>
    refine State.takeCommand_of_act ht (r := accept s) ?_
    rcases hsame with ⟨hrole, rfl⟩ | ⟨hrole, rfl⟩ | ⟨hrole, rfl⟩
    all_goals simp [setRoleAct, roleTarget, setRoleTo, hrole]
  case refine_3 =>
    refine State.takeCommand_of_act ht (r := refuse .badState s) ?_
    rcases hforbidden with ⟨hrole, rfl⟩ | ⟨hrole, hlt⟩ | ⟨hrole, hle⟩
    · simp [setRoleAct, roleTarget, setRoleTo, hrole]
    · rcases roleTarget_of_le (Nat.le_of_lt hlt) with rfl | rfl | rfl
      · simp [setRoleAct, roleTarget, setRoleTo, hrole]
      · simp [setRoleAct, roleTarget, setRoleTo, hrole]
      · exact absurd hlt (by decide)
    · rcases roleTarget_of_le hle with rfl | rfl | rfl
      all_goals simp [setRoleAct, roleTarget, setRoleTo, hrole]
  case refine_4 =>
    rintro hrole rfl hbusy
    refine State.takeCommand_of_act ht (r := refuse .busy s) ?_
    simp [setRoleAct, roleTarget, setRoleTo, hrole, State.hostWriteToMirrored_iff.mpr hbusy]
  case refine_5 =>
    rintro hrole rfl hidle
    have hbusy : s.hostWriteToMirrored = false := by
      rw [Bool.eq_false_iff, Ne, State.hostWriteToMirrored_iff]
      rintro ⟨t, hmem, hne⟩
      exact hne (hidle t hmem)
    refine ⟨s.becomeReplica, State.takeCommand_of_act ht (r := accept s.becomeReplica) ?_, State.becomeReplica_frame, ?_⟩
    · simp [setRoleAct, roleTarget, setRoleTo, hrole, hbusy]
    · have hlink : s.becomeReplica.link = { s.enterTraining.link with
          tx := s.becomeReplica.link.tx, due := s.becomeReplica.link.due } := State.finish_link _
      rw [hlink]
      exact ⟨rfl, rfl, rfl, rfl, rfl, State.pairState_alone_of_finish (by exact (by decide : Role.replica ≠ .primary))⟩
  case refine_6 =>
    rintro hrole rfl
    refine ⟨s.becomePrimary, State.takeCommand_of_act ht (r := accept s.becomePrimary) ?_, State.becomePrimary_frame, ?_⟩
    · simp [setRoleAct, roleTarget, setRoleTo, hrole]
    · have hlink : s.becomePrimary.link = { s.enterTraining.link with
          tx := s.becomePrimary.link.tx, due := s.becomePrimary.link.due } := State.finish_link _
      rw [hlink]
      refine ⟨rfl, rfl, rfl, rfl, rfl, ?_⟩
      rw [State.becomePrimary, State.finish_pair]
      rfl
  case refine_7 =>
    rintro hrole rfl
    obtain ⟨hoff, hsession, hrepeat, hkeepalive, hsilence, hrecord⟩ := s.leavePrimary_link_values
    have hframe := s.leavePrimary_frame
    have hmem : s.leavePrimary.mem = { s.mem.abandonSweep with sweepWait := 0, applyRun := 0 } := by rw [hframe]
    refine ⟨s.leavePrimary, State.takeCommand_of_act ht (r := accept s.leavePrimary) ?_, ?_, hoff, hsession, hrepeat, hkeepalive,
      hsilence, by rw [hframe]; rfl, by rw [hframe]; rfl, by rw [hframe]; rfl, by rw [hframe]; rfl, by rw [hmem], by rw [hmem],
      fun huse => ?_, fun p huse => ?_, s.leavePrimary_outstanding,
      s.leavePrimary_pairState,
      fun hhold hup => ?_, fun hidle => ?_, fun hspace => ?_, fun hwait => ?_, fun hmemory => ?_, fun hup => ?_, fun hup => ?_⟩
    · simp [setRoleAct, roleTarget, setRoleTo, hrole]
    · rw [hframe]
    · rw [hmem]
      simp [MemPort.abandonSweep, huse]
    · rw [hmem]
      exact MemPort.abandonSweep_of_use huse
    · rw [State.leavePrimary_host hrole, if_pos hup, HostPort.leavePrimary_afterSession, if_pos hhold]
    · rw [State.leavePrimary_host_of_free hrole (by simp [hidle])]
      simp [HostPort.leavePrimary, hidle]
    · rw [State.leavePrimary_host_of_free hrole (by simp [hspace])]
      simp [HostPort.leavePrimary, hspace]
    · rw [State.leavePrimary_host_of_free hrole (by simp [hwait])]
      simp [HostPort.leavePrimary, hwait]
    · rw [State.leavePrimary_host_of_free hrole (by simp [hmemory])]
      simp [HostPort.leavePrimary, hmemory]
    · rw [hrecord, if_pos hup]
      exact ⟨rfl, State.leavePrimary_halt hup⟩
    · rw [hrecord, if_neg hup]

/-! ## RELINK (R95) -/

section
variable {s : State}

theorem State.enterTraining_finish_frame :
    let u := s.enterTraining.finish
    u = { s with link := u.link, pair := u.pair, alert := u.alert } :=
  State.finish_of_inactive (s := s.enterTraining)
    (State.senderActive_of_down (by simp [State.enterTraining, State.beginEpisode, State.setLink]))

theorem State.enterTraining_finish_link :
    s.enterTraining.finish.link =
      { s.link with state := .training, phase := .hello, conflictReported := false, repeatRun := true, keepaliveRun := false, silence := none,
                    tx := s.enterTraining.finish.link.tx, due := s.enterTraining.finish.link.due } := State.finish_link _

/-- R95: HELLO is due behind a HALT that is still due. -/
theorem State.enterTraining_finish_of_halt {r : HaltReason} (htx : s.link.tx = none) (hhalt : s.link.due.halt = some r) :
    s.enterTraining.finish.link.tx = some (.halt r) ∧ s.enterTraining.finish.link.due.hello = true := by
  rw [State.finish, State.kick_of_halt_due (r := r) (by simpa [State.enterTraining, State.beginEpisode, State.setLink] using htx)
    (by simpa [State.enterTraining, State.beginEpisode, State.setLink, Due.keep] using hhalt)]
  simp [State.transmit, State.enterTraining, State.beginEpisode]

theorem State.enterTraining_finish_of_busy (htx : s.link.tx.isSome = true) :
    s.enterTraining.finish.link.tx = s.link.tx ∧ s.enterTraining.finish.link.due.halt = s.link.due.halt ∧
      s.enterTraining.finish.link.due.hello = true := by
  rw [State.finish_link_of_busy (s := s.enterTraining) htx]
  exact ⟨rfl, rfl, rfl⟩

/-! ## PROMOTE (R96, R132, R134) -/

theorem State.promotionBegun_link : s.promotionBegun.link =
    { ((if s.link.state = .up then s.dueHalt .promoted else s).setLink .off).link with continuity := false } := by
  unfold State.promotionBegun
  dsimp only
  by_cases hup : s.link.state = .up
  · simp only [State.linkUp, hup, beq_self_eq_true, if_true]
    split <;> rfl
  · have hlink : s.linkUp = false := by simp [State.linkUp, hup]
    simp only [hlink, if_neg hup]
    split <;> rfl

theorem State.promotionBegun_of_fault (hfault : s.apply.state = .fault) :
    s.promotionBegun.receiver = { s.receiver with queue := [] } ∧ s.promotionBegun.apply = ApplyEngine.idle := by
  unfold State.promotionBegun
  dsimp only
  rw [if_pos hfault]
  exact ⟨rfl, rfl⟩

theorem State.promotionBegun_of_sound (hsound : s.apply.state ≠ .fault) :
    s.promotionBegun.receiver = s.receiver ∧ s.promotionBegun.apply = s.apply := by
  unfold State.promotionBegun
  dsimp only
  rw [if_neg hsound]
  exact ⟨rfl, rfl⟩

theorem State.beginPromotion_link : s.beginPromotion.link =
    { s.promotionBegun.link with tx := s.beginPromotion.link.tx, due := s.beginPromotion.link.due } := by
  have hlink := s.promotionBegun.endPromotion.finish_link
  rwa [← State.beginPromotion_eq, State.endPromotion_link] at hlink

theorem State.beginPromotion_ended :
    s.beginPromotion = { s.promotionBegun.endPromotion with link := s.beginPromotion.link, pair := s.beginPromotion.pair,
                                                            alert := s.beginPromotion.alert } := by
  have hdown : s.promotionBegun.endPromotion.link.state ≠ .up := by
    rw [State.endPromotion_link, State.promotionBegun_link]
    exact (by decide : LinkState.off ≠ .up)
  have hfinish := State.finish_of_inactive (State.senderActive_of_down hdown)
  rwa [← State.beginPromotion_eq] at hfinish

theorem State.promotionBegun_receiver : s.promotionBegun.receiver = { s.receiver with queue := s.promotionBegun.receiver.queue } := by
  unfold State.promotionBegun
  dsimp only
  split <;> rfl

theorem State.beginPromotion_frame :
    let u := s.beginPromotion
    u = { s with role := u.role, link := u.link, receiver := { s.receiver with queue := u.receiver.queue }, apply := u.apply,
                 mem := u.mem, alert := u.alert, pair := u.pair } := by
  intro u
  have hended : u = _ := s.beginPromotion_ended
  have hend : s.promotionBegun.endPromotion =
      { s with role := s.promotionBegun.endPromotion.role, link := s.promotionBegun.endPromotion.link,
               receiver := { s.receiver with queue := s.promotionBegun.endPromotion.receiver.queue },
               apply := s.promotionBegun.endPromotion.apply, mem := s.promotionBegun.endPromotion.mem,
               alert := s.promotionBegun.endPromotion.alert } := by
    have hbegun := s.promotionBegun_frame
    rw [State.endPromotion_receiver, ← State.promotionBegun_receiver, State.endPromotion_link, State.endPromotion_apply]
    generalize s.promotionBegun = b at hbegun ⊢
    conv => lhs; rw [State.endPromotion_frame]
    rw [hbegun]
  rw [hended]
  conv => lhs; rw [hend]

theorem State.beginPromotion_link_values :
    let l := s.beginPromotion.link
    l.state = .off ∧ l.continuity = false ∧ l.lastServed = s.link.lastServed ∧ l.silence = none ∧ l.repeatRun = false ∧
    l.keepaliveRun = false ∧
    l.haltRecord = if s.link.state = .up then some { reason := .promoted, direction := .sent } else s.link.haltRecord := by
  dsimp only
  rw [State.beginPromotion_link, State.promotionBegun_link]
  refine ⟨rfl, rfl, ?_, rfl, rfl, rfl, ?_⟩
  · split <;> rfl
  · split <;> rfl

/-- R96: from UP the HALT of the promotion is begun by a free transmitter. -/
theorem State.beginPromotion_halt (hup : s.link.state = .up) (htx : s.link.tx = none) :
    s.beginPromotion.link.tx = some (.halt .promoted) := by
  have hlink : s.promotionBegun.endPromotion.link = { ((s.dueHalt .promoted).setLink .off).link with continuity := false } := by
    rw [State.endPromotion_link, State.promotionBegun_link, if_pos hup]
  rw [State.beginPromotion_eq]
  exact (State.finish_tx_of_halt_due (r := .promoted) (by rw [hlink]; rfl) (by rw [hlink]; exact htx)).1

/-- R132: with records to apply the promotion goes on. -/
theorem State.beginPromotion_of_work (hqueue : s.receiver.queue ≠ []) (hsound : s.apply.state ≠ .fault) :
    let u := s.beginPromotion
    u.role = .promoting ∧ u.receiver = s.receiver ∧ u.apply = s.apply ∧ u.mem = s.mem := by
  obtain ⟨hreceiver, happly⟩ := State.promotionBegun_of_sound hsound
  have hgoes : s.promotionBegun.endPromotion = s.promotionBegun := by
    rw [State.endPromotion, if_neg]
    rintro ⟨-, hnone⟩
    exact hqueue (hreceiver ▸ hnone)
  intro u
  have hended : u = _ := s.beginPromotion_ended
  rw [hgoes] at hended
  rw [hended]
  refine ⟨?_, hreceiver, happly, ?_⟩
  · rw [s.promotionBegun_frame]
  · rw [s.promotionBegun_frame]

/-- R134: with nothing to apply it ends at once. -/
theorem State.beginPromotion_of_idle (h : s.receiver.queue = [] ∨ s.apply.state = .fault) :
    let u := s.beginPromotion
    u.role = .standalone ∧ u.receiver.queue = [] ∧ u.mem = { s.mem with sweepWait := 0, applyRun := 0 } ∧
      u.cause .promoted = (s.cause .promoted).occur := by
  have hqueue : s.promotionBegun.receiver.queue = [] := by
    by_cases hfault : s.apply.state = .fault
    · rw [(State.promotionBegun_of_fault hfault).1]
    · rw [(State.promotionBegun_of_sound hfault).1]
      exact h.resolve_right hfault
  have hends : s.promotionBegun.endPromotion =
      State.report .promoted { s.promotionBegun with
        role := .standalone, mem := { s.promotionBegun.mem with sweepWait := 0, applyRun := 0 } } := by
    rw [State.endPromotion, if_pos ⟨by rw [s.promotionBegun_frame], hqueue⟩]
  intro u
  have hcause : u.cause .promoted = (s.cause .promoted).occur := by
    have hbegun : s.promotionBegun.cause .promoted = s.cause .promoted := by rw [s.promotionBegun_frame]; rfl
    calc u.cause .promoted = s.promotionBegun.endPromotion.cause .promoted := by
          rw [← State.finish_cause (by decide) (by decide) s.promotionBegun.endPromotion, ← State.beginPromotion_eq]
      _ = (s.promotionBegun.cause .promoted).occur := by
          rw [hends, State.report_cause_same]
          rfl
      _ = (s.cause .promoted).occur := by rw [hbegun]
  have hended : u = _ := s.beginPromotion_ended
  rw [hends] at hended
  refine ⟨by rw [hended]; rfl, by rw [hended]; exact hqueue, ?_, hcause⟩
  rw [hended, s.promotionBegun_frame]
  rfl

end

/-- Settles O55: each command in its state and outside it. -/
theorem relinkPromoteAndClearFault : Obligations.RelinkPromoteAndClearFault := by
  intro s
  refine ⟨fun ht => ⟨fun hother => ?_, fun hhalted => ?_⟩, fun ht => ⟨fun hother => ?_, fun hrole => ?_⟩,
    fun ht => ⟨fun hother => ?_, fun hfault => ?_⟩⟩
  case refine_1 => exact State.takeCommand_of_act ht (r := refuse .badState s) (if_neg hother)
  case refine_2 =>
    refine ⟨s.enterTraining.finish, State.takeCommand_of_act ht (r := accept s.enterTraining.finish) (if_pos hhalted),
      State.enterTraining_finish_frame, ?_, ?_, ?_, ?_, ?_, ?_, ?_, ?_, State.finish_derived,
      fun r htx hdue => State.enterTraining_finish_of_halt htx hdue, State.enterTraining_finish_of_busy⟩
    all_goals rw [State.enterTraining_finish_link]
  case refine_3 => exact State.takeCommand_of_act ht (r := refuse .badState s) (if_neg hother)
  case refine_4 =>
    obtain ⟨hoff, hcontinuity, hserved, hsilence, hrepeat, hkeepalive, hrecord⟩ := s.beginPromotion_link_values
    refine ⟨s.beginPromotion, State.takeCommand_of_act ht (r := accept s.beginPromotion) (if_pos hrole), State.beginPromotion_frame, hoff,
      hcontinuity, hserved, hsilence, hrepeat, hkeepalive, fun hup => ?_, fun hup => ?_, State.beginPromotion_of_work,
      State.beginPromotion_of_idle⟩
    · rw [hrecord, if_pos hup]
      exact ⟨rfl, State.beginPromotion_halt hup⟩
    · rw [hrecord, if_neg hup]
  case refine_5 => exact State.takeCommand_of_act ht (r := refuse .badState s) (if_neg hother)
  case refine_6 => exact State.takeCommand_of_act ht (r := accept s.discardQueue) (if_pos hfault)

end Sys2Proof.Machine

/-! PROOF. The frames that open and end a session: HELLO, START, READY, IDLE and HALT (R80 to R91). -/

namespace Sys2Proof.Machine

open Sys2Proof

set_option Elab.async false

section
variable {s : State} {bytes : List Byte}

/-- A valid frame of the command's type acts on the state that has heard it (R88). -/
theorem exec_of_valid (hs : s.Runs) (hl : s.link.state ≠ .off) {f : LinkFrame} (act : LinkFrame → State → State)
    (hf : checkFrame bytes = some f) : s.receive f.type bytes act = .next (act f s.heard) :=
  State.receive_of_valid hs hl bytes f act hf

/-! ## HELLO (R80 to R82, R84, R87, R89) -/

/-- A HELLO that tells of a part in this part's own role, or of another pair (R80, R84). -/
def State.Conflicting (s : State) (h : Hello) : Prop :=
  s.role = .primary ∧ (h.role = .primary ∨ h.pairId ≠ s.params.pairId) ∨
    s.role = .replica ∧ (h.role = .replica ∨ h.pairId ≠ s.params.pairId)

/-- The mode a HELLO decides (R81). -/
def decidedMode (h : Hello) (last : SessionNo) : SessionMode :=
  if h.session = last ∧ last ≠ 0 ∧ h.continuity = true then .incremental else .full

/-- The map with every mirrored block dirty (R54). -/
def State.filled (s : State) : DirtyMap :=
  { flags := mirroredBlocks s.regions, count := (mirroredBlocks s.regions).length, cursor := 0 }

variable {h : Hello}

theorem State.testHello_of_conflicting (hconflict : s.Conflicting h) : s.testHello h = s.roleConflict := by
  rcases hconflict with ⟨hrole, hbad⟩ | ⟨hrole, hbad⟩
  · simp [State.testHello, State.conflicts, hrole, hbad]
  · simp [State.testHello, State.conflicts, hrole, hbad]

theorem State.roleConflict_eq : s.roleConflict =
    if s.link.conflictReported = true then s
    else { s with link := { s.link with conflictReported := true }, alert := (s.report .roleConflict).alert } := rfl

section
variable (hrole : s.role = .primary) (hpeer : h.role = .replica) (hpair : h.pairId = s.params.pairId)
include hrole hpeer hpair

theorem State.testHello_of_pending (hqueue : h.queueEmpty = false) : s.testHello h = s := by
  simp [State.testHello, State.conflicts, hrole, hpeer, hpair, hqueue]

theorem State.testHello_of_hello (hqueue : h.queueEmpty = true) (hphase : s.link.phase = .hello) : s.testHello h = s.decide h := by
  simp [State.testHello, State.conflicts, hrole, hpeer, hpair, hqueue, hphase]

theorem State.testHello_of_start {m : SessionMode} (hqueue : h.queueEmpty = true) (hphase : s.link.phase = .start m) :
    s.testHello h = s.recheck m h := by
  simp [State.testHello, State.conflicts, hrole, hpeer, hpair, hqueue, hphase]

end

theorem State.testHello_of_replica (hrole : s.role = .replica) (hpeer : h.role = .primary) (hpair : h.pairId = s.params.pairId) :
    s.testHello h = s := by
  simp [State.testHello, State.conflicts, hrole, hpeer, hpair]

/-- R81: the decision. -/
theorem State.decide_eq : s.decide h =
    { s with link := { s.link with lastSession := successor s.link.lastSession, phase := .start (decidedMode h s.link.lastSession),
                                    repeatRun := true, due := { s.link.due with start := true, hello := false } },
             map := if decidedMode h s.link.lastSession = .full then s.filled else s.map } := by
  have hmode : s.decideMode h = decidedMode h s.link.lastSession := rfl
  simp only [State.decide, hmode]
  cases decidedMode h s.link.lastSession with
  | full => rfl
  | incremental => rfl

/-- R82: an INCREMENTAL decision tested again. -/
theorem State.recheck_incremental : s.recheck .incremental h =
    if h.continuity = true ∧ (h.session = s.link.lastSession ∨ predecessor s.link.lastSession = some h.session) then s
    else { s with link := { s.link with phase := .start .full }, map := s.filled } := by
  have hstands : s.incrementalStands h = true ↔
      h.continuity = true ∧ (h.session = s.link.lastSession ∨ predecessor s.link.lastSession = some h.session) := by
    simp [State.incrementalStands]
  simp only [State.recheck, hstands]
  rfl

/-- What a HELLO tested can do. -/
theorem State.testHello_cases (h : Hello) : s.testHello h = s ∨ s.testHello h = s.roleConflict ∨
    s.role = .primary ∧ (s.testHello h = s.decide h ∨ ∃ m, s.testHello h = s.recheck m h) := by
  unfold State.testHello
  split
  · next hrole =>
    split
    · exact .inr (.inl rfl)
    · split
      · split
        · exact .inr (.inr ⟨hrole, .inl rfl⟩)
        · exact .inr (.inr ⟨hrole, .inr ⟨_, rfl⟩⟩)
      · exact .inl rfl
  · split
    · exact .inr (.inl rfl)
    · exact .inl rfl
  · exact .inl rfl

theorem State.roleConflict_keeps : s.roleConflict.link.state = s.link.state ∧ s.roleConflict.link.repeatRun = s.link.repeatRun ∧
    s.roleConflict.cause .linkLost = s.cause .linkLost ∧ s.roleConflict.map = s.map := by
  unfold State.roleConflict
  split
  · exact ⟨rfl, rfl, rfl, rfl⟩
  · exact ⟨rfl, rfl, State.report_cause_of_ne (by decide) _, rfl⟩

theorem State.recheck_keeps (m : SessionMode) : (s.recheck m h).link.state = s.link.state ∧
    (s.recheck m h).link.repeatRun = s.link.repeatRun ∧ (s.recheck m h).cause .linkLost = s.cause .linkLost := by
  unfold State.recheck
  split
  · exact ⟨rfl, rfl, rfl⟩
  · split
    · exact ⟨rfl, rfl, rfl⟩
    · exact ⟨rfl, rfl, rfl⟩

/-- A HELLO tested leaves the link where it is, with the repeat timer running on. -/
theorem State.testHello_keeps (hrepeat : s.link.repeatRun = true) : (s.testHello h).link.state = s.link.state ∧
    (s.testHello h).link.repeatRun = true ∧ (s.testHello h).cause .linkLost = s.cause .linkLost := by
  obtain heq | heq | ⟨-, heq | ⟨m, heq⟩⟩ := s.testHello_cases h
  · rw [heq]
    exact ⟨rfl, hrepeat, rfl⟩
  · obtain ⟨hstate, hrun, hcause, -⟩ := s.roleConflict_keeps
    rw [heq]
    exact ⟨hstate, hrun.trans hrepeat, hcause⟩
  · rw [heq, State.decide_eq]
    exact ⟨rfl, rfl, rfl⟩
  · obtain ⟨hstate, hrun, hcause⟩ := s.recheck_keeps m (h := h)
    rw [heq]
    exact ⟨hstate, hrun.trans hrepeat, hcause⟩

theorem State.testHello_map_of_not_primary (hrole : s.role ≠ .primary) : (s.testHello h).map = s.map := by
  obtain heq | heq | ⟨hprimary, -⟩ := s.testHello_cases h
  · rw [heq]
  · rw [heq]
    exact s.roleConflict_keeps.2.2.2
  · exact absurd hprimary hrole

theorem exec_receiveHello_training (hs : s.Runs) (hf : checkFrame bytes = some (.hello h)) (htrain : s.link.state = .training) :
    exec (.receiveHello bytes) s = .next (s.testHello h).finish := by
  refine (exec_of_valid hs (by simp [htrain]) State.takeHello hf).trans ?_
  rw [State.heard_of_not_up (by simp [htrain])]
  simp only [State.takeHello, htrain]

theorem exec_receiveHello_up (hs : s.Runs) (hf : checkFrame bytes = some (.hello h)) (hup : s.link.state = .up) :
    exec (.receiveHello bytes) s = .next (s.restartSilence.loseLink.testHello h).finish := by
  refine (exec_of_valid hs (by simp [hup]) State.takeHello hf).trans ?_
  rw [State.heard_of_up hup]
  have hstill : s.restartSilence.link.state = .up := hup
  simp only [State.takeHello, hstill]

theorem exec_receiveHello_halted (hs : s.Runs) (hf : checkFrame bytes = some (.hello h)) (hhalted : s.link.state = .halted) :
    exec (.receiveHello bytes) s = .next s := by
  refine (exec_of_valid hs (by simp [hhalted]) State.takeHello hf).trans ?_
  rw [State.heard_of_not_up (by simp [hhalted])]
  simp only [State.takeHello, hhalted]

/-- The link that a HELLO in UP has lost (R89). -/
theorem State.lost_link : s.restartSilence.loseLink.link =
    { s.link with state := .training, phase := .hello, conflictReported := false, repeatRun := true, keepaliveRun := false, silence := none,
                  due := { s.link.due.keep .training with hello := true } } := State.loseLink_link _

end

/-! ## A HELLO taken in UP, to the end of its event (R89) -/

section
variable {s : State} (h : Hello)

theorem State.lost_testHello_keeps :
    (s.loseLink.testHello h).link.state = .training ∧ (s.loseLink.testHello h).link.repeatRun = true ∧
      (s.loseLink.testHello h).cause .linkLost = (s.cause .linkLost).occur := by
  obtain ⟨hstate, hrepeat, hcause⟩ := State.testHello_keeps (s := s.loseLink) (h := h) (by rw [s.loseLink_link]; rfl)
  refine ⟨?_, hrepeat, hcause.trans State.loseLink_cause⟩
  rw [hstate, s.loseLink_link]
  rfl

theorem State.lost_testHello_inactive : (s.loseLink.testHello h).senderActive = false :=
  State.senderActive_of_down (by rw [(State.lost_testHello_keeps h).1]; decide)

theorem State.finish_testHello_of_lost :
    let u := (s.loseLink.testHello h).finish
    u.link.state = .training ∧ u.link.repeatRun = true ∧ u.cause .linkLost = (s.cause .linkLost).occur := by
  obtain ⟨hstate, hrepeat, hcause⟩ := State.lost_testHello_keeps (s := s) h
  exact ⟨by simpa using hstate, by simpa using hrepeat, (State.finish_cause (by decide) (by decide) _).trans hcause⟩

theorem State.finish_testHello_frame :
    let u := (s.loseLink.testHello h).finish
    u = { s with link := u.link, journal := u.journal, sender := u.sender, map := u.map, sweep := u.sweep, host := u.host,
                 pair := u.pair, alert := u.alert, mem := { s.mem with sweepWait := u.mem.sweepWait } } := by
  intro u
  have hfinish : u = { s.loseLink.testHello h with link := u.link, pair := u.pair, alert := u.alert } :=
    State.finish_of_inactive (State.lost_testHello_inactive h)
  rw [State.testHello_frame, State.loseLink_frame] at hfinish
  rw [hfinish]

theorem State.loseLink_records (hrole : s.role = .primary) : s.loseLink.journal.records = [] := by
  rw [State.loseLink_of_primary hrole]
  exact State.sessionEnd_records _

theorem State.loseLink_outstanding (hrole : s.role = .primary) : s.loseLink.pair.outstanding = [] := by
  rw [State.loseLink_of_primary hrole]
  exact State.sessionEnd_outstanding _

theorem State.finish_testHello_of_primary (hrole : s.role = .primary) :
    let u := (s.loseLink.testHello h).finish
    u.journal.records = [] ∧ u.pair.outstanding = [] := by
  constructor
  · rw [State.finish_of_inactive (State.lost_testHello_inactive h)]
    exact (congrArg Journal.records (State.testHello_journal h _)).trans (State.loseLink_records hrole)
  · rw [State.finish_pair, State.testHello_pair]
    exact State.loseLink_outstanding hrole

theorem State.finish_testHello_of_replica (hrole : s.role ≠ .primary) :
    let u := (s.loseLink.testHello h).finish
    u = { s with link := u.link, pair := u.pair, alert := u.alert } := by
  intro u
  have hfinish : u = { s.loseLink.testHello h with link := u.link, pair := u.pair, alert := u.alert } :=
    State.finish_of_inactive (State.lost_testHello_inactive h)
  rw [State.testHello_frame, State.testHello_map_of_not_primary (by simpa using hrole)] at hfinish
  rw [State.loseLink_of_not_primary hrole] at hfinish
  exact hfinish

end

/-- Settles O41: the test of a HELLO in TRAINING, and in UP the same test after the link's loss. -/
theorem helloDecidesTheSession : Obligations.HelloDecidesTheSession := by
  intro s bytes h hs hf
  refine ⟨fun htrain hrole hpeer hpair hqueue => ⟨fun hphase => ?_, fun hphase => ?_, fun hphase => ?_⟩,
    fun htrain hrole hpeer hpair hqueue => ?_, fun htrain hconflict => ?_, fun htrain hrole hpeer hpair => ?_, fun hup => ?_,
    fun hup hrole => ?_, exec_receiveHello_halted hs hf⟩
  case refine_1 =>
    rw [exec_receiveHello_training hs hf htrain, State.testHello_of_hello hrole hpeer hpair hqueue hphase, State.decide_eq]
    rfl
  case refine_2 =>
    rw [exec_receiveHello_training hs hf htrain, State.testHello_of_start hrole hpeer hpair hqueue hphase]
    rfl
  case refine_3 =>
    rw [exec_receiveHello_training hs hf htrain, State.testHello_of_start hrole hpeer hpair hqueue hphase, State.recheck_incremental]
    rfl
  case refine_4 =>
    rw [exec_receiveHello_training hs hf htrain, State.testHello_of_pending hrole hpeer hpair hqueue]
  case refine_5 =>
    rw [exec_receiveHello_training hs hf htrain, State.testHello_of_conflicting hconflict]
    rfl
  case refine_6 =>
    rw [exec_receiveHello_training hs hf htrain, State.testHello_of_replica hrole hpeer hpair]
  case refine_7 =>
    have hexec := exec_receiveHello_up hs hf hup
    have hlink := s.lost_link
    have hcause : s.restartSilence.loseLink.cause .linkLost = (s.cause .linkLost).occur := State.loseLink_cause
    have hsame : s.restartSilence.loseLink.role = s.role := by simp
    have hparams : s.restartSilence.loseLink.params = s.params := by simp
    have hregions : s.restartSilence.loseLink.regions = s.regions := by simp
    intro lost m
    change exec _ s = .next (lost.testHello h).finish at hexec
    change lost.link = _ at hlink
    change lost.cause _ = _ at hcause
    change lost.role = _ at hsame
    change lost.params = _ at hparams
    change lost.regions = _ at hregions
    refine ⟨by rw [hlink], by rw [hlink], by rw [hlink], by rw [hlink], hcause, fun hconflict => ?_,
      fun hrole hpeer hpair => ⟨fun hqueue => ?_, fun hqueue => ?_⟩, fun hrole hpeer hpair => ?_⟩
    · have hfirst : ¬lost.link.conflictReported = true := by simp [hlink]
      rw [hexec, State.testHello_of_conflicting (by rw [State.Conflicting, hsame, hparams]; exact hconflict), State.roleConflict_eq,
        if_neg hfirst]
    · have hlast : lost.link.lastSession = s.link.lastSession := by rw [hlink]
      rw [hexec, State.testHello_of_hello (hsame.trans hrole) hpeer (by rw [hparams, hpair]) hqueue (by rw [hlink]), State.decide_eq,
        State.filled, hlast, hregions]
      rfl
    · rw [hexec, State.testHello_of_pending (hsame.trans hrole) hpeer (by rw [hparams, hpair]) hqueue]
    · rw [hexec, State.testHello_of_replica (hsame.trans hrole) hpeer (by rw [hparams, hpair])]
  case refine_8 =>
    have hlost := State.finish_testHello_of_lost (s := s.restartSilence) h
    obtain ⟨hstate, hrepeat, hcause⟩ := hlost
    refine ⟨_, exec_receiveHello_up hs hf hup, hstate, hcause, hrepeat, State.finish_testHello_frame (s := s.restartSilence) h,
      State.finish_testHello_of_primary (s := s.restartSilence) h, fun hreplica => ?_⟩
    exact State.finish_testHello_of_replica (s := s.restartSilence) h (by simp [hreplica])

/-! ## START (R85, R86, R116) -/

/-- The conditions on which a Replica takes a START (R85). -/
def State.StartStands (s : State) (session : SessionNo) (mode : SessionMode) : Prop :=
  s.receiver.queue = [] ∧
    (mode = .full ∨ s.link.continuity = true ∧ (session = s.link.lastServed ∨ session = successor s.link.lastServed))

section
variable {s : State} {bytes : List Byte} {session : SessionNo} {mode : SessionMode}

theorem State.acceptsStart_iff : s.acceptsStart session mode = true ↔ s.StartStands session mode := by
  cases mode <;> simp [State.acceptsStart, State.StartStands]

theorem State.testStart_of_stands (h : s.StartStands session mode) : s.testStart session mode = s.acceptStart session :=
  if_pos (State.acceptsStart_iff.mpr h)

theorem State.testStart_of_not_stands (h : ¬s.StartStands session mode) : s.testStart session mode = s :=
  if_neg (mt State.acceptsStart_iff.mp h)

/-- R85, R116: the session opened. -/
theorem State.acceptStart_eq (hqueue : s.receiver.queue = []) : s.acceptStart session =
    { s with link := { s.link with
               state := .up, lastServed := session, continuity := true, repeatRun := false, keepaliveRun := true,
               silence := some s.params.silenceLimit, due := { s.link.due with hello := false, start := false, halt := none, ready := true } },
             receiver := { queue := [], expected := 0, appliedThrough := 255, nakPending := false },
             alert := (s.report .linkUp).alert } := by
  have hreceiver : ({ s.receiver with expected := 0, appliedThrough := 255, nakPending := false } : Receiver) =
      { queue := [], expected := 0, appliedThrough := 255, nakPending := false } := by simp [hqueue]
  unfold State.acceptStart
  rw [hreceiver]
  rfl

theorem State.testStart_linkLost : (s.testStart session mode).cause .linkLost = s.cause .linkLost := by
  unfold State.testStart
  split
  · exact State.report_cause_of_ne (by decide) _
  · rfl

theorem exec_receiveStart_training (hs : s.Runs) (hrole : s.role = .replica) (hf : checkFrame bytes = some (.start session mode))
    (htrain : s.link.state = .training) : exec (.receiveStart bytes) s = .next (s.testStart session mode).finish := by
  refine (exec_of_valid hs (by simp [htrain]) State.takeStart hf).trans ?_
  rw [State.heard_of_not_up (by simp [htrain])]
  simp only [State.takeStart, hrole, htrain]
  rfl

theorem exec_receiveStart_same (hs : s.Runs) (hrole : s.role = .replica) (hf : checkFrame bytes = some (.start session mode))
    (hup : s.link.state = .up) (hsame : session = s.link.lastServed) :
    exec (.receiveStart bytes) s = .next s.restartSilence.dueReady.kick := by
  refine (exec_of_valid hs (by simp [hup]) State.takeStart hf).trans ?_
  have hstill : s.restartSilence.link.state = .up := hup
  have hreplica : s.restartSilence.role = .replica := hrole
  rw [State.heard_of_up hup]
  simp only [State.takeStart, hreplica, hstill]
  exact congrArg _ (if_pos hsame)

theorem exec_receiveStart_other (hs : s.Runs) (hrole : s.role = .replica) (hf : checkFrame bytes = some (.start session mode))
    (hup : s.link.state = .up) (hother : session ≠ s.link.lastServed) :
    exec (.receiveStart bytes) s = .next (s.restartSilence.loseLink.testStart session mode).finish := by
  refine (exec_of_valid hs (by simp [hup]) State.takeStart hf).trans ?_
  have hstill : s.restartSilence.link.state = .up := hup
  have hreplica : s.restartSilence.role = .replica := hrole
  rw [State.heard_of_up hup]
  simp only [State.takeStart, hreplica, hstill]
  exact congrArg _ (if_neg hother)

end

/-- Settles O42: the START taken or not in TRAINING, the READY repeated, and the link's loss before the test. -/
theorem startOpensTheReplicasSession : Obligations.StartOpensTheReplicasSession := by
  intro s bytes session mode hs hrole hf
  refine ⟨fun htrain hstands => ?_, fun htrain hnot => ?_, fun hup hsame => ?_, fun hup hother => ?_⟩
  case refine_1 =>
    have hinactive : (s.acceptStart session).senderActive = false := State.senderActive_of_not_primary (by simp [State.acceptStart, State.dueReady, hrole])
    have hfinish := State.finish_of_inactive hinactive
    have hlink := (s.acceptStart session).finish_link
    refine ⟨(s.acceptStart session).finish, ?_, ?_, ?_, ?_, fun hbusy => ?_, fun hfree => ?_⟩
    · rw [exec_receiveStart_training hs hrole hf htrain, State.testStart_of_stands hstands]
    · generalize (s.acceptStart session).finish = u at hfinish hlink ⊢
      rw [State.acceptStart_eq hstands.1] at hfinish hlink
      conv => lhs; rw [hfinish, hlink]
    · rw [State.finish_cause (by decide) (by decide), State.acceptStart_eq hstands.1]
      exact State.report_cause_same _ s
    · exact State.pairState_alone_of_finish (by simp [State.acceptStart, State.dueReady, hrole])
    · rw [State.finish_link_of_busy (s := s.acceptStart session) hbusy]
      exact ⟨rfl, rfl⟩
    · have hkick := State.kick_of_ready_due (s := (s.acceptStart session).derivePair) (by rw [State.derivePair_link]; exact hfree)
        (by rw [State.derivePair_link]; rfl) (by rw [State.derivePair_link]; rfl)
      rw [State.finish, hkick, State.derivePair_link]
      rfl
  case refine_2 =>
    rw [exec_receiveStart_training hs hrole hf htrain, State.testStart_of_not_stands hnot]
  case refine_3 => exact exec_receiveStart_same hs hrole hf hup hsame
  case refine_4 =>
    have hlost : s.restartSilence.loseLink = { s with link := s.restartSilence.loseLink.link, alert := s.restartSilence.loseLink.alert } :=
      State.loseLink_of_not_primary (s := s.restartSilence) (by simp [hrole])
    have hlink := s.lost_link
    have hsame : s.restartSilence.loseLink.StartStands session mode ↔ s.StartStands session mode := by
      rw [State.StartStands, hlink, hlost]
      rfl
    refine ⟨_, exec_receiveStart_other hs hrole hf hup hother, ?_, ?_, fun hstands => ?_, fun hnot => ?_⟩
    · rw [State.finish_cause (by decide) (by decide), State.testStart_linkLost]
      exact State.loseLink_cause
    · have hfinish := State.finish_of_inactive (s := s.restartSilence.loseLink.testStart session mode)
        (State.senderActive_of_not_primary (by simp [hrole]))
      generalize (s.restartSilence.loseLink.testStart session mode).finish = u at hfinish ⊢
      rw [State.testStart_frame, hlost] at hfinish
      conv => lhs; rw [hfinish]
      rw [hfinish]
    · rw [State.testStart_of_stands (hsame.mpr hstands), State.finish_link_state, State.finish_link_lastServed, State.finish_receiver]
      exact ⟨rfl, rfl, rfl⟩
    · rw [State.testStart_of_not_stands (mt hsame.mp hnot), State.finish_link_state, State.finish_link_lastServed, State.finish_receiver,
        hlink, hlost]
      exact ⟨rfl, rfl, rfl⟩

/-! ## READY, IDLE and HALT (R58, R83, R91) -/

section
variable {s : State} {bytes : List Byte}

/-- An empty journal has no record to send. -/
theorem State.dataFrame_of_empty (hempty : s.journal.records = []) : s.dataFrame = none := by
  unfold State.dataFrame
  rw [hempty]
  split
  · rfl
  · simp [resendFirst, sendFirst]

theorem State.finish_of_empty (hempty : s.journal.records = []) :
    s.finish = { s with link := s.finish.link, pair := s.finish.pair, alert := s.finish.alert } := by
  have hkick : s.derivePair.kick = { s.derivePair with link := s.derivePair.kick.link } := by
    obtain ⟨tx, due, hkick⟩ | ⟨f, t, hdata, -⟩ := s.derivePair.kick_cases
    · rw [hkick]
    · rw [State.dataFrame_of_empty (by simpa using hempty)] at hdata
      contradiction
  rw [State.finish, hkick, s.derivePair_frame]

/-- R58: the sweep at link UP. -/
theorem State.sweepLinkUp_sweep : s.sweepLinkUp.sweep = { s.sweep with state :=
    if s.sweep.state = .idle then
      (if s.params.autoRepair = true then (if s.map.count = 0 then .idle else .scanning) else .stopped)
    else s.sweep.state } := by
  unfold State.sweepLinkUp
  split
  · split
    · rfl
    · rfl
  · rfl

theorem exec_receiveReady_start {session : SessionNo} {m : SessionMode} (hs : s.Runs) (hf : checkFrame bytes = some (.ready session))
    (hrole : s.role = .primary) (htrain : s.link.state = .training) (hphase : s.link.phase = .start m)
    (hsession : session = s.link.lastSession) :
    exec (.receiveReady bytes) s = .next s.enterUp.resetSender.sweepLinkUp.finish := by
  refine (exec_of_valid hs (by simp [htrain]) State.takeReady hf).trans ?_
  rw [State.heard_of_not_up (by simp [htrain])]
  simp only [State.takeReady, hphase]
  exact congrArg _ (if_pos ⟨hrole, htrain, hsession⟩)

/-- A READY in UP is only heard. -/
theorem State.takeReady_of_up (f : LinkFrame) (hup : s.link.state = .up) : s.takeReady f = s := by
  unfold State.takeReady
  split
  · exact if_neg fun hstart => by simp [hup] at hstart
  · rfl

theorem exec_receiveHalt_up {r : HaltReason} (hs : s.Runs) (hf : checkFrame bytes = some (.halt r)) (hup : s.link.state = .up) :
    exec (.receiveHalt bytes) s = .next (s.restartSilence.haltReceived r).finish := by
  refine (exec_of_valid hs (by simp [hup]) State.takeHalt hf).trans ?_
  rw [State.heard_of_up hup]
  have hstill : s.restartSilence.linkUp = true := by simpa [State.linkUp] using hup
  exact congrArg _ (if_pos hstill)

theorem exec_receiveHalt_down {r : HaltReason} (hs : s.Runs) (hf : checkFrame bytes = some (.halt r))
    (hdown : s.link.state = .training ∨ s.link.state = .halted) : exec (.receiveHalt bytes) s = .next s := by
  have hup : s.link.state ≠ .up := by rcases hdown with h | h <;> simp [h]
  have hon : s.link.state ≠ .off := by rcases hdown with h | h <;> simp [h]
  refine (exec_of_valid hs hon State.takeHalt hf).trans ?_
  rw [State.heard_of_not_up hup]
  exact congrArg _ (if_neg (by simpa [State.linkUp] using hup))

theorem State.haltReceived_link (r : HaltReason) : (s.haltReceived r).link =
    { (s.setLink .halted).link with haltRecord := some { reason := r, direction := .received } } := by
  simp [State.haltReceived, State.departUp_link]

theorem State.haltReceived_down (r : HaltReason) : (s.haltReceived r).senderActive = false :=
  State.senderActive_of_down (by rw [s.haltReceived_link]; exact (by decide : LinkState.halted ≠ .up))

theorem State.haltReceived_cause (r : HaltReason) : (s.haltReceived r).cause .linkHalted = (s.cause .linkHalted).occur :=
  (State.report_cause_same .linkHalted (s.departUp .halted)).trans
    (congrArg Cause.occur (State.departUp_cause (by decide) (by decide) _))

theorem State.haltReceived_finish_frame (r : HaltReason) :
    let u := (s.haltReceived r).finish
    u = { s with link := u.link, journal := u.journal, sender := u.sender, map := u.map, sweep := u.sweep, host := u.host,
                 pair := u.pair, alert := u.alert, mem := { s.mem with sweepWait := u.mem.sweepWait } } := by
  intro u
  have hfinish : u = { s.haltReceived r with link := u.link, pair := u.pair, alert := u.alert } :=
    State.finish_of_inactive (s.haltReceived_down r)
  rw [State.haltReceived_frame] at hfinish
  rw [hfinish]

theorem State.haltReceived_of_not_primary (r : HaltReason) (hrole : s.role ≠ .primary) :
    s.haltReceived r = { s with link := (s.haltReceived r).link, alert := (s.haltReceived r).alert } := by
  simp only [State.haltReceived, State.departUp, if_neg hrole]
  rfl

theorem State.haltReceived_of_primary (r : HaltReason) (hrole : s.role = .primary) :
    (s.haltReceived r).finish.journal.records = [] ∧ (s.haltReceived r).finish.pair.outstanding = [] := by
  have hend : (s.haltReceived r).journal = (s.setLink .halted).sessionEnd.journal ∧
      (s.haltReceived r).pair = (s.setLink .halted).sessionEnd.pair := by
    simp only [State.haltReceived, State.departUp, if_pos hrole]
    exact ⟨rfl, rfl⟩
  constructor
  · rw [State.finish_of_inactive (s.haltReceived_down r)]
    exact (congrArg Journal.records hend.1).trans (State.sessionEnd_records _)
  · rw [State.finish_pair, hend.2]
    exact State.sessionEnd_outstanding _

end

/-- Settles O43, frame by frame. -/
theorem readyIdleAndHaltFrames : Obligations.ReadyIdleAndHaltFrames := by
  intro s bytes hs
  refine ⟨fun session m hf hrole htrain hphase hsession => ?_, fun session hf hup => ?_, fun hf hup => ?_, fun r hf hup => ?_,
    fun r hf hdown => exec_receiveHalt_down hs hf hdown⟩
  case refine_1 =>
    have hlink := s.enterUp.resetSender.sweepLinkUp.finish_link
    rw [State.sweepLinkUp_link] at hlink
    refine ⟨_, exec_receiveReady_start hs hf hrole htrain hphase hsession, by rw [hlink]; rfl, by rw [hlink]; rfl, by rw [hlink]; rfl,
      by rw [hlink]; rfl, ?_, fun hempty => ?_, ?_, State.finish_derived, by simp, by simp⟩
    · rw [State.finish_cause (by decide) (by decide), State.cause, State.sweepLinkUp_alert]
      exact State.report_cause_same .linkUp _
    · have hfinish := State.finish_of_empty (s := s.enterUp.resetSender.sweepLinkUp) (by simpa using hempty)
      generalize s.enterUp.resetSender.sweepLinkUp.finish = u at hfinish ⊢
      rw [State.sweepLinkUp_frame] at hfinish
      rw [hfinish]
      rfl
    · rw [State.finish_sweep, State.sweepLinkUp_sweep]
      rfl
  case refine_2 =>
    refine (exec_of_valid hs (by simp [hup]) State.takeReady hf).trans ?_
    rw [State.heard_of_up hup, State.takeReady_of_up]
    · rfl
    · exact hup
  case refine_3 =>
    refine (exec_of_valid hs (by simp [hup]) (fun _ s => s) hf).trans ?_
    rw [State.heard_of_up hup]
    rfl
  case refine_4 =>
    have hlink := (s.restartSilence.haltReceived r).finish_link
    have hfinish := State.finish_of_inactive (s.restartSilence.haltReceived_down r)
    rw [State.haltReceived_link] at hlink
    refine ⟨_, exec_receiveHalt_up hs hf hup, State.haltReceived_finish_frame (s := s.restartSilence) r, by rw [hlink]; rfl,
      by rw [hlink], ?_, by rw [hlink]; rfl, by rw [hlink]; rfl, by rw [hlink]; rfl, fun hbusy => ?_, State.finish_derived,
      State.haltReceived_of_primary (s := s.restartSilence) r, fun hreplica => ?_⟩
    · rw [State.finish_cause (by decide) (by decide)]
      exact s.restartSilence.haltReceived_cause r
    · have hlink := s.restartSilence.haltReceived_link r
      rw [State.finish_link_of_busy (by rw [hlink]; exact hbusy), hlink]
      exact ⟨rfl, rfl⟩
    · generalize (s.restartSilence.haltReceived r).finish = u at hfinish ⊢
      rw [State.haltReceived_of_not_primary (s := s.restartSilence) r (by simp [hreplica])] at hfinish
      exact hfinish

end Sys2Proof.Machine

/-! PROOF. The replica's records: a DATA frame placed by its lag, and the apply engine (R115 to R134). -/

namespace Sys2Proof.Machine

open Sys2Proof

set_option Elab.async false

section
variable {s : State} {bytes : List Byte} {seq : SeqNo} {payload : Payload}

/-! ## A DATA frame (R117 to R120) -/

theorem exec_receiveData (hs : s.Runs) (hrole : s.role = .replica) (hup : s.link.state = .up)
    (hf : checkFrame bytes = some (.data seq payload)) :
    exec (.receiveData bytes) s = .next (s.restartSilence.placeData { seq := seq, payload := payload }).kick := by
  refine (exec_of_valid hs (by simp [hup]) State.takeData hf).trans ?_
  rw [State.heard_of_up hup]
  exact congrArg _ (if_pos ⟨hrole, by simpa [State.linkUp] using hup⟩)

variable {r : QueueRecord}

theorem State.placeData_of_room (hlag : (s.receiver.expected - r.seq).toNat = 0) (hroom : s.receiver.queue.length < 32) :
    s.placeData r = s.acceptData r :=
  (if_pos hlag).trans (if_pos hroom)

theorem State.placeData_of_full (hlag : (s.receiver.expected - r.seq).toNat = 0) (hfull : 32 ≤ s.receiver.queue.length) :
    s.placeData r = s.gap :=
  (if_pos hlag).trans (if_neg (Nat.not_lt.mpr hfull))

theorem State.placeData_of_old (hlag : 1 ≤ (s.receiver.expected - r.seq).toNat) (hold : (s.receiver.expected - r.seq).toNat ≤ 32) :
    s.placeData r = s.dueAck :=
  (if_neg (by omega)).trans (if_pos hold)

theorem State.placeData_of_ahead (hlag : 33 ≤ (s.receiver.expected - r.seq).toNat) : s.placeData r = s.gap :=
  (if_neg (by omega)).trans (if_neg (by omega))

/-- The receiver with a record accepted (R118). -/
def Receiver.joined (v : Receiver) (r : QueueRecord) : Receiver :=
  { v with queue := v.queue ++ [r], expected := v.expected + 1, nakPending := false }

theorem State.acceptData_of_busy (hbusy : s.apply.state ≠ .idle) : s.acceptData r = { s with receiver := s.receiver.joined r } :=
  if_neg hbusy

theorem State.acceptData_of_idle (hidle : s.apply.state = .idle) (hempty : s.receiver.queue = []) :
    s.acceptData r = takeQueue [r] { s with receiver := s.receiver.joined r } := by
  have haccept : s.acceptData r = takeQueue (s.receiver.joined r).queue { s with receiver := s.receiver.joined r } := if_pos hidle
  rw [haccept, Receiver.joined, hempty]
  rfl

/-! ## What the engine takes from a queue (R123, R126) -/

/-- A record that needs a transaction is requested. -/
theorem takeQueue_of_work {q : QueueRecord} {rest : List QueueRecord} (hwork : recordTxns s.params.windowBase q.payload ≠ []) :
    takeQueue (q :: rest) s =
      { s with receiver := { s.receiver with queue := q :: rest },
               apply := { state := .applying, todo := recordTxns s.params.windowBase q.payload, request := true } } := by
  rw [takeQueue]
  split
  · contradiction
  · next t ts htxns => rw [htxns]

/-- A MARKER record is applied at once. -/
theorem takeQueue_of_marker {q : QueueRecord} {rest : List QueueRecord} {tag : Tag} (hq : q.payload = .marker tag) :
    takeQueue (q :: rest) s = takeQueue rest (State.recordApplied q { s with receiver := { s.receiver with queue := rest } }) := by
  rw [takeQueue, hq]
  rfl

theorem State.recordApplied_of_up (hup : s.link.state = .up) : s.recordApplied r =
    { s with receiver := { s.receiver with appliedThrough := r.seq }, counters := s.counters.set 11 (saturatingSucc s.counters[11]),
             link := { s.link with due := { s.link.due with ack := true } } } := by
  have hlink : s.linkUp = true := by simpa [State.linkUp] using hup
  simp only [State.recordApplied, hlink, if_true]
  rfl

end

/-- Settles O44: the frame placed by its lag, and its record taken up by an idle engine. -/
theorem dataFrameIsPlacedByLag : Obligations.DataFrameIsPlacedByLag := by
  intro s bytes seq payload hs hrole hup hf
  have hexec := exec_receiveData hs hrole hup hf
  intro lag heard queued gap
  refine ⟨fun hlag hroom hbusy => ?_, fun hlag hempty hidle => ⟨fun tag hmarker => ?_, fun hwork => ?_⟩, fun hlag hfull => ?_,
    fun hlow hhigh => ?_, fun hahead => ?_⟩
  case refine_1 =>
    rw [hexec, State.placeData_of_room (s := s.restartSilence) (r := { seq := seq, payload := payload }) hlag hroom]
    rw [State.acceptData_of_busy (s := s.restartSilence) hbusy]
    rfl
  case refine_2 =>
    have hroom : s.receiver.queue.length < 32 := by simp [hempty]
    rw [hexec, State.placeData_of_room (s := s.restartSilence) (r := { seq := seq, payload := payload }) hlag hroom,
      State.acceptData_of_idle (s := s.restartSilence) hidle hempty, takeQueue_of_marker hmarker, State.recordApplied_of_up (by exact hup)]
    rfl
  case refine_3 =>
    have hroom : s.receiver.queue.length < 32 := by simp [hempty]
    rw [hexec, State.placeData_of_room (s := s.restartSilence) (r := { seq := seq, payload := payload }) hlag hroom,
      State.acceptData_of_idle (s := s.restartSilence) hidle hempty, takeQueue_of_work (by exact hwork)]
    simp only [queued, hempty]
    simp [Receiver.joined, State.restartSilence, heard]
  case refine_4 => rw [hexec, State.placeData_of_full (s := s.restartSilence) (r := { seq := seq, payload := payload }) hlag hfull]; rfl
  case refine_5 => rw [hexec, State.placeData_of_old (s := s.restartSilence) (r := { seq := seq, payload := payload }) hlow hhigh]; rfl
  case refine_6 => rw [hexec, State.placeData_of_ahead (s := s.restartSilence) (r := { seq := seq, payload := payload }) hahead]; rfl

/-! ## Records applied one after another (R126) -/

section
variable {s : State}

/-- Records applied, the first one first. -/
def State.appliedAll (rs : List QueueRecord) (s : State) : State := rs.foldl (fun t r => t.recordApplied r) s

/-- An ACK made due while the link is UP (R122). -/
def State.ackedLink (s : State) : Link := if s.link.state = .up then { s.link with due := { s.link.due with ack := true } } else s.link

theorem State.recordApplied_eq (r : QueueRecord) : s.recordApplied r =
    { s with receiver := { s.receiver with appliedThrough := r.seq }, counters := s.counters.set 11 (saturatingSucc s.counters[11]),
             link := s.ackedLink } := by
  by_cases hup : s.link.state = .up
  · rw [State.recordApplied_of_up hup, State.ackedLink, if_pos hup]
  · have hlink : s.linkUp = false := by simp [State.linkUp, hup]
    simp only [State.recordApplied, hlink, State.ackedLink, if_neg hup]
    rfl

theorem State.appliedAll_eq (r : QueueRecord) (marks : List QueueRecord) : s.appliedAll (r :: marks) =
    { s with receiver := { s.receiver with appliedThrough := (marks.getLast?.getD r).seq },
             counters := s.counters.set 11 ((r :: marks).foldl (fun v _ => saturatingSucc v) s.counters[11]), link := s.ackedLink } := by
  induction marks generalizing s r with
  | nil => exact State.recordApplied_eq r
  | cons m ms ih =>
    have hacked : (s.recordApplied r).ackedLink = s.ackedLink := by
      rw [State.recordApplied_eq]
      simp only [State.ackedLink]
      split
      · simp
      · simp
    have hstep : s.appliedAll (r :: m :: ms) = (s.recordApplied r).appliedAll (m :: ms) := rfl
    rw [hstep, ih, hacked, List.getLast?_cons, State.recordApplied_eq]
    simp

/-- What the engine takes does not depend on the queue as it stood. -/
theorem takeQueue_of_queue (q before : List QueueRecord) :
    takeQueue q { s with receiver := { s.receiver with queue := before } } = takeQueue q s := by
  cases q with
  | nil => rfl
  | cons r rest =>
    rw [takeQueue, takeQueue]

/-- R126: the MARKER records at the head of a queue are applied before the first record that needs a transaction. -/
theorem takeQueue_of_markers {marks rest : List QueueRecord} (hmarks : ∀ q ∈ marks, ∃ tag, q.payload = .marker tag) :
    takeQueue (marks ++ rest) s = takeQueue rest (s.appliedAll marks) := by
  induction marks generalizing s with
  | nil => rfl
  | cons q ms ih =>
    obtain ⟨tag, hq⟩ := hmarks q (by simp)
    have hqueue : State.recordApplied q { s with receiver := { s.receiver with queue := ms ++ rest } } =
        { s.recordApplied q with receiver := { (s.recordApplied q).receiver with queue := ms ++ rest } } := by
      rw [State.recordApplied_eq, State.recordApplied_eq]
      rfl
    rw [List.cons_append, takeQueue_of_marker hq, hqueue, takeQueue_of_queue, ih fun q' hq' => hmarks q' (by simp [hq'])]
    rfl

theorem exec_applyGrant {t : BusTxn} {ts : List BusTxn} (hs : s.Runs) (htodo : s.apply.todo = t :: ts) (hgrant : s.applyGrantable = true) :
    exec .applyGrant s = .next
      { s with mem := { s.mem with use := some { owner := .apply, txn := t, limit := s.params.memLimit }, applyRun := s.mem.applyRun + 1 },
               apply := { s.apply with request := false } } := by
  change execApplyGrant s = _
  rw [execApplyGrant, State.awake_of_runs hs]
  simp only [htodo, hgrant, if_true]
  rfl

theorem exec_applyCompletion (hs : s.Runs) (hmem : s.applyInMemory = true) (hstate : s.apply.state = .applying) :
    exec .applyCompletion s = .next s.freePort.completeApply.finish := by
  change execApplyCompletion s = _
  rw [execApplyCompletion, State.awake_of_runs hs, if_pos ⟨hmem, hstate⟩]

theorem State.completeApply_of_more {t n : BusTxn} {ts : List BusTxn} (htodo : s.apply.todo = t :: n :: ts) :
    s.completeApply = { s with apply := { s.apply with todo := n :: ts, request := true } } := by
  simp only [State.completeApply, htodo]

/-- The last transaction of a record: it is applied with the MARKER records behind it. -/
theorem State.completeApply_of_last {t : BusTxn} {r : QueueRecord} {marks rest : List QueueRecord} (htodo : s.apply.todo = [t])
    (hqueue : s.receiver.queue = r :: marks ++ rest) (hmarks : ∀ q ∈ marks, ∃ tag, q.payload = .marker tag) :
    s.completeApply = (takeQueue rest (s.appliedAll (r :: marks))).endPromotion := by
  have hlast : s.completeApply = s.applyHead.endPromotion := by simp only [State.completeApply, htodo]
  have hhead : s.applyHead =
      takeQueue (marks ++ rest) (State.recordApplied r { s with receiver := { s.receiver with queue := marks ++ rest } }) := by
    simp only [State.applyHead, hqueue, List.cons_append]
  have happlied : State.recordApplied r { s with receiver := { s.receiver with queue := marks ++ rest } } =
      { s.recordApplied r with receiver := { (s.recordApplied r).receiver with queue := marks ++ rest } } := by
    rw [State.recordApplied_eq, State.recordApplied_eq]
    rfl
  rw [hlast, hhead, happlied, takeQueue_of_queue, takeQueue_of_markers hmarks]
  rfl

end

/-- Settles O47: the grant, the next transaction, and the record applied with what the engine takes after it. -/
theorem applyEngineWritesItsRecords : Obligations.ApplyEngineWritesItsRecords := by
  intro s hs
  refine ⟨fun t ts htodo hgrant => exec_applyGrant hs htodo hgrant, fun hmem hstate => ⟨fun t n ts htodo => ?_,
    fun t r marks rest htodo hqueue hmarks => ?_⟩⟩
  case refine_1 =>
    rw [exec_applyCompletion hs hmem hstate, State.completeApply_of_more (s := s.freePort) htodo]
    rfl
  case refine_2 =>
    have hexec := exec_applyCompletion hs hmem hstate
    rw [State.completeApply_of_last (s := s.freePort) htodo hqueue hmarks, State.appliedAll_eq] at hexec
    refine ⟨fun hnone => ?_, fun q more hrest hwork => ?_⟩
    · subst hnone
      rw [hexec, State.endPromotion]
      by_cases hrole : s.role = .promoting
      · rw [if_pos ⟨hrole, rfl⟩, if_pos hrole]
        rfl
      · rw [if_neg (fun h => hrole h.1), if_neg hrole]
        rfl
    · subst hrest
      rw [hexec, takeQueue_of_work (by exact hwork), State.endPromotion, if_neg (fun h => List.cons_ne_nil _ _ h.2)]
      rfl

/-! ## An apply write past its limit (R92, R127, R133) -/

section
variable {s : State}

/-- A local halt elsewhere than on a primary, asked for in UP or TRAINING. -/
theorem State.localHalt_of_live (hrole : s.role ≠ .primary) (hlive : s.link.state = .up ∨ s.link.state = .training) (r : HaltReason) :
    s.localHalt r = ((s.dueHalt r).setLink .halted).report .linkHalted := by
  rcases hlive with h | h
  · simp [State.localHalt, h, State.departUp, hrole]
  · simp [State.localHalt, h]

theorem State.localHalt_of_rest (hrest : s.link.state = .halted ∨ s.link.state = .off) (r : HaltReason) : s.localHalt r = s := by
  rcases hrest with h | h
  · simp [State.localHalt, h]
  · simp [State.localHalt, h]

theorem exec_applyTimeout (hs : s.Runs) (hmem : s.applyInMemory = true) (hstate : s.apply.state = .applying) (hrole : s.role ≠ .promoting) :
    exec .applyTimeout s = .next (s.applyFaulted.localHalt .applyFault).finish := by
  change execApplyTimeout s = _
  rw [execApplyTimeout, State.awake_of_runs hs, if_pos ⟨hmem, hstate⟩]
  simp only [if_neg hrole]
  rfl

theorem exec_applyTimeout_promoting (hs : s.Runs) (hmem : s.applyInMemory = true) (hstate : s.apply.state = .applying)
    (hrole : s.role = .promoting) :
    exec .applyTimeout s = .next (s.applyFaulted.localHalt .applyFault).discardQueue.endPromotion.finish := by
  change execApplyTimeout s = _
  rw [execApplyTimeout, State.awake_of_runs hs, if_pos ⟨hmem, hstate⟩]
  simp only [if_pos hrole]
  rfl

/-- The part whose engine is in FAULT, its link just halted (R92, R127). -/
def State.faultHalted (s : State) : State := ((s.applyFaulted.dueHalt .applyFault).setLink .halted).report .linkHalted

/-- The part whose promotion an apply fault has ended (R133, R134). -/
def State.promotionFaulted (s : State) : State :=
  State.report .promoted { s.applyFaulted.discardQueue with
    role := .standalone, mem := { s.applyFaulted.discardQueue.mem with sweepWait := 0, applyRun := 0 } }

theorem State.applyFaulted_cause : s.applyFaulted.cause .applyFault = (s.cause .applyFault).occur := State.report_cause_same _ _

theorem State.applyFaulted_linkHalted : s.applyFaulted.cause .linkHalted = s.cause .linkHalted :=
  State.report_cause_of_ne (by decide) _

end

/-- Settles O48, by the role and the link's state. -/
theorem applyTimeoutFreezesTheQueue : Obligations.ApplyTimeoutFreezesTheQueue := by
  intro s hs hmem hstate
  refine ⟨fun hrole hlive => ?_, fun hrole hhalted hbusy => ?_, fun hrole hoff => ?_⟩
  case refine_1 =>
    have hexec := exec_applyTimeout hs hmem hstate (by simp [hrole])
    rw [State.localHalt_of_live (s := s.applyFaulted) (by exact (by simp [hrole] : s.role ≠ .primary)) hlive] at hexec
    have hfinish := State.finish_of_inactive (s := s.faultHalted)
      (State.senderActive_of_down (by exact (by decide : LinkState.halted ≠ .up)))
    have hlink := s.faultHalted.finish_link
    refine ⟨s.faultHalted.finish, hexec, ?_, by rw [hlink]; rfl, by rw [hlink]; rfl, by rw [hlink]; rfl, ?_, ?_, fun hfree => ?_,
      fun hbusy => ?_⟩
    · generalize s.faultHalted.finish = u at hfinish ⊢
      rw [hfinish]
      rfl
    · rw [State.finish_cause (by decide) (by decide), State.faultHalted, State.report_cause_of_ne (by decide)]
      exact State.applyFaulted_cause
    · rw [State.finish_cause (by decide) (by decide), State.faultHalted, State.report_cause_same]
      exact congrArg Cause.occur State.applyFaulted_linkHalted
    · exact (State.finish_tx_of_halt_due (s := s.faultHalted) (r := .applyFault) rfl hfree).1
    · rw [State.finish_link_of_busy (s := s.faultHalted) hbusy]
      exact ⟨rfl, rfl⟩
  case refine_2 =>
    have hexec := exec_applyTimeout hs hmem hstate (by simp [hrole])
    rw [State.localHalt_of_rest (s := s.applyFaulted) (.inl hhalted)] at hexec
    have hfinish := State.finish_of_busy (s := s.applyFaulted) hbusy
    refine ⟨_, hexec, ?_, ?_⟩
    · generalize s.applyFaulted.finish = u at hfinish ⊢
      rw [hfinish]
      rfl
    · rw [State.finish_cause (by decide) (by decide)]
      exact State.applyFaulted_cause
  case refine_3 =>
    have hexec := exec_applyTimeout_promoting hs hmem hstate hrole
    have hends : s.applyFaulted.discardQueue.endPromotion = s.promotionFaulted := if_pos ⟨hrole, rfl⟩
    rw [State.localHalt_of_rest (s := s.applyFaulted) (.inr hoff), hends] at hexec
    have hfinish := State.finish_of_inactive (s := s.promotionFaulted)
      (State.senderActive_of_not_primary (by exact (by decide : Role.standalone ≠ .primary)))
    have hlink := s.promotionFaulted.finish_link
    refine ⟨s.promotionFaulted.finish, hexec, ?_, by rw [hlink]; exact hoff, by rw [hlink]; rfl, by rw [hlink]; rfl, ?_, ?_⟩
    · generalize s.promotionFaulted.finish = u at hfinish ⊢
      rw [hfinish]
      rfl
    · rw [State.finish_cause (by decide) (by decide), State.promotionFaulted, State.report_cause_of_ne (by decide)]
      exact State.applyFaulted_cause
    · rw [State.finish_cause (by decide) (by decide), State.promotionFaulted, State.report_cause_same]
      exact congrArg Cause.occur (State.report_cause_of_ne (by decide) _)

end Sys2Proof.Machine

/-! PROOF. ACK and NAK on a primary: what a removal from the journal's head hands on, and the record deliveries that follow (R43, R104, R106). -/

namespace Sys2Proof.Machine

open Sys2Proof

set_option Elab.async false

/-! ## The host port at a removal (R15, R16, R43) -/

/-- The host port when the record that carries its write is removed. -/
def HostPort.released (h : HostPort) : HostPort :=
  match h.state with
  | .syncHold => { HostPort.idle with answer := some .doneWrite }
  | .inMemory => { h with bound := false }
  | _ => h

/-- Whether a record's removal releases the host port: its waiter is set, and it is no MARKER record. -/
def Record.releases (r : Record) : Bool := r.waiter && r.tag?.isNone

theorem HostPort.released_released (h : HostPort) : h.released.released = h.released := by
  cases hstate : h.state <;> simp [HostPort.released, hstate, HostPort.idle]

theorem HostPort.released_of_hold {h : HostPort} (hstate : h.state = .syncHold) :
    h.released = { HostPort.idle with answer := some .doneWrite } := by
  simp only [HostPort.released, hstate]

theorem HostPort.released_of_memory {h : HostPort} (hstate : h.state = .inMemory) : h.released = { h with bound := false } := by
  simp only [HostPort.released, hstate]

theorem HostPort.released_of_other {h : HostPort} (hhold : h.state ≠ .syncHold) (hmemory : h.state ≠ .inMemory) : h.released = h := by
  unfold HostPort.released
  split
  · contradiction
  · contradiction
  · rfl

theorem Record.releases_iff {r : Record} : r.releases = true ↔ r.waiter = true ∧ r.tag? = none := by
  simp [Record.releases]

section
variable {s : State}

theorem State.releaseHold_eq : s.releaseHold = { s with host := s.host.released } := by
  cases hstate : s.host.state
  all_goals simp [State.releaseHold, HostPort.released, State.answer, hstate]

theorem State.handOff_host (r : Record) : (s.handOff r).host = if r.releases then s.host.released else s.host := by
  unfold State.handOff
  split
  · next tag hbody =>
    have hreleases : r.releases = false := by simp [Record.releases, Record.tag?, hbody]
    rw [hreleases, State.markerReached_frame]
    rfl
  · next hbody =>
    have htag : r.tag? = none := by
      unfold Record.tag?
      split
      · next t ht => exact absurd ht (hbody t)
      · rfl
    have hreleases : r.releases = r.waiter := by simp [Record.releases, htag]
    rw [hreleases]
    split
    · rw [State.releaseHold_eq]
    · rfl

theorem removeHead_cons {n : Nat} {r : Record} {rest : List Record} (h : s.journal.records = r :: rest) :
    removeHead (n + 1) s = removeHead n (State.handOff r { s with journal := { s.journal with records := rest } }) := by
  rw [removeHead]
  simp only [h]

theorem removeHead_nil {n : Nat} (h : s.journal.records = []) : removeHead n s = s := by
  cases n with
  | zero => rfl
  | succ n =>
    rw [removeHead]
    simp only [h]

/-- R43: the port is released when one of the records removed carries its write. -/
theorem removeHead_host (n : Nat) :
    (removeHead n s).host = if (s.journal.records.take n).any Record.releases then s.host.released else s.host := by
  induction n generalizing s with
  | zero => rfl
  | succ n ih =>
    cases hrecords : s.journal.records with
    | nil => rw [removeHead_nil hrecords]; rfl
    | cons r rest =>
      have hleft : (State.handOff r { s with journal := { s.journal with records := rest } }).journal.records = rest := by
        rw [State.handOff_frame]
      rw [removeHead_cons hrecords, ih, hleft, State.handOff_host, List.take_succ_cons, List.any_cons]
      cases hr : r.releases with
      | false => simp
      | true => simp [HostPort.released_released]

/-! ## The write in SPACE_WAIT tested again (R11) -/

section
variable {n : NotedBlock} {t : BusTxn} (hstate : s.host.state = .spaceWait) (hnoted : s.host.noted = some n) (htxn : s.host.txn = some t)
include hstate hnoted htxn

theorem State.retestHost_of_no_need (hneed : s.needsJournal n.block = false) :
    s.retestHost.host = { s.host with state := .portWait, claim := false, timer := none } := by
  simp only [State.retestHost, hstate, hnoted, htxn, State.admission_noJournal hneed]
  simp [State.toPortWait, hnoted, htxn]

theorem State.retestHost_of_room (hneed : s.needsJournal n.block = true) (hfree : 1 ≤ s.freeSlots) :
    s.retestHost.host = { s.host with state := .portWait, claim := true, timer := none } := by
  simp only [State.retestHost, hstate, hnoted, htxn, State.admission_claim hneed hfree]
  simp [State.toPortWait, hnoted, htxn]

end

/-! ## Removal as a whole (R43, R46) -/

theorem State.remove_records (n : Nat) : (s.remove n).journal.records = s.journal.records.drop n := by
  cases n with
  | zero => rfl
  | succ n =>
    change (Machine.removeHead (n + 1) s).announceRise.waterTest.journal.records = _
    rw [State.waterTest_records, State.announceRise_journal, removeHead_records]

theorem State.remove_host {n : Nat} (hn : 1 ≤ n) : (s.remove n).host = (Machine.removeHead n s).retestHost.host := by
  obtain ⟨n, rfl⟩ := Nat.exists_eq_add_of_le' hn
  change (Machine.removeHead (n + 1) s).announceRise.waterTest.host = _
  rw [State.waterTest_host, State.announceRise, State.sweepRise_host]

theorem State.remove_pair {n : Nat} (hn : 1 ≤ n) : (s.remove n).pair = (Machine.removeHead n s).pair := by
  obtain ⟨n, rfl⟩ := Nat.exists_eq_add_of_le' hn
  change (Machine.removeHead (n + 1) s).announceRise.waterTest.pair = _
  rw [State.waterTest_pair, State.announceRise_pair]

theorem State.remove_cause {n : Nat} (hn : 1 ≤ n) {c : AlertCause} (hc : .journalHigh ≠ c) :
    (s.remove n).cause c = (Machine.removeHead n s).cause c := by
  obtain ⟨n, rfl⟩ := Nat.exists_eq_add_of_le' hn
  change (Machine.removeHead (n + 1) s).announceRise.waterTest.cause c = _
  rw [State.waterTest_cause hc, State.cause, State.announceRise_alert, State.cause]

theorem State.remove_mem (n : Nat) : (s.remove n).mem = { s.mem with sweepWait := (s.remove n).mem.sweepWait } := by
  cases n with
  | zero => rfl
  | succ n =>
    change (Machine.removeHead (n + 1) s).announceRise.waterTest.mem =
      { s.mem with sweepWait := (Machine.removeHead (n + 1) s).announceRise.waterTest.mem.sweepWait }
    rw [State.waterTest_mem, State.announceRise, State.sweepRise_mem, State.retestHost_mem, removeHead_frame]

/-- The host port after a removal, where no write waits for space. -/
theorem State.remove_host_of_not_waiting {n : Nat} (hn : 1 ≤ n) (hwait : s.host.state ≠ .spaceWait) :
    (s.remove n).host = if (s.journal.records.take n).any Record.releases then s.host.released else s.host := by
  have hhost := removeHead_host (s := s) n
  have hstill : (Machine.removeHead n s).host.state ≠ .spaceWait := by
    rw [hhost]
    split
    · cases hstate : s.host.state <;> simp [HostPort.released, hstate, HostPort.idle]
      exact absurd hstate hwait
    · exact hwait
  rw [State.remove_host hn, State.retestHost_of_not_waiting _ hstill, hhost]

/-- The host port after a removal that frees room for a write in SPACE_WAIT. -/
theorem State.remove_host_of_waiting {n : Nat} {b : NotedBlock} {t : BusTxn} (hn : 1 ≤ n) (hup : s.link.state = .up)
    (hstate : s.host.state = .spaceWait) (hnoted : s.host.noted = some b) (htxn : s.host.txn = some t) :
    let needs : Prop := b.block ∈ s.map.flags → ∃ c, s.sweep.copy = some c ∧ c.block = b.block
    (¬needs → (s.remove n).host = { s.host with state := .portWait, claim := false, timer := none }) ∧
    (needs → (s.journal.records.drop n).length + (if s.host.claim then 1 else 0) < 256 →
      (s.remove n).host = { s.host with state := .portWait, claim := true, timer := none }) := by
  have hsame : (Machine.removeHead n s).host = s.host := by
    rw [removeHead_host, HostPort.released_of_other (by simp [hstate]) (by simp [hstate]), ite_self]
  have hneeds := State.needsJournal_iff (s := Machine.removeHead n s) b.block
  have hwaits : (Machine.removeHead n s).host.state = .spaceWait := by rw [hsame, hstate]
  have hnotes : (Machine.removeHead n s).host.noted = some b := by rw [hsame, hnoted]
  have hholds : (Machine.removeHead n s).host.txn = some t := by rw [hsame, htxn]
  intro needs
  have hword : (Machine.removeHead n s).needsJournal b.block = true ↔ needs := by
    rw [hneeds, removeHead_frame]
    exact and_iff_right hup
  rw [State.remove_host hn]
  constructor
  · intro hno
    rw [State.retestHost_of_no_need hwaits hnotes hholds (Bool.eq_false_iff.mpr (mt hword.mp hno)), hsame]
  · intro hneed hroom
    have hfree : 1 ≤ (Machine.removeHead n s).freeSlots := by
      rw [State.freeSlots, removeHead_records, hsame, Config.journalSlots]
      omega
    rw [State.retestHost_of_room hwaits hnotes hholds (hword.mpr hneed) hfree, hsame]

/-- What a removal leaves outstanding. -/
theorem JournalLaw.outstanding_drop {n : Nat} {t : State} (h : JournalLaw s) (hn : n ≤ s.journal.outstanding)
    (ht : t.journal.records = s.journal.records.drop n) : t.journal.outstanding = s.journal.outstanding - n := by
  obtain ⟨k, hshape, -⟩ := h.shape
  have hk := hshape.outstanding
  have hrest : SentFirst t.journal.records s.sender.next (k - n) := ht ▸ hshape.drop (hk ▸ hn)
  rw [hrest.outstanding, hk]

/-! ## Markers reached (R147, R149) -/

/-- The results list keeps its newest eight entries (R149). -/
def newestEight (results : List MarkerResult) : List MarkerResult := results.drop (results.length - 8)

/-- Markers reached, in order. -/
def reachedResults (tags : List Tag) : List MarkerResult := tags.map fun tag => { tag := tag, outcome := .reached }

theorem newestEight_of_short {results : List MarkerResult} (h : results.length ≤ 8) : newestEight results = results := by
  rw [newestEight, Nat.sub_eq_zero_of_le h, List.drop_zero]

theorem newestEight_newestEight_append (xs ys : List MarkerResult) : newestEight (newestEight xs ++ ys) = newestEight (xs ++ ys) := by
  have hlen : (newestEight xs).length = xs.length - (xs.length - 8) := List.length_drop
  have hdrop : newestEight xs ++ ys = (xs ++ ys).drop (xs.length - 8) := by
    rw [newestEight, List.drop_append_of_le_length (Nat.sub_le _ _)]
  rw [newestEight, List.length_append, hlen, hdrop, List.drop_drop, newestEight, List.length_append]
  congr 1
  omega

theorem State.addResult_results (e : MarkerResult) : (s.addResult e).pair.results = newestEight (s.pair.results ++ [e]) := by
  rw [newestEight, List.length_append, List.length_singleton, List.drop_append_of_le_length (by omega)]
  rfl

theorem State.handOff_of_marker {r : Record} {tag : Tag} {rest : List Tag} (hr : r.tag? = some tag) (hout : s.pair.outstanding = tag :: rest) :
    (s.handOff r).pair = { s.pair with outstanding := rest,
                                       results := newestEight (s.pair.results ++ [{ tag := tag, outcome := .reached }]) } ∧
    (s.handOff r).cause .markerDone = (s.cause .markerDone).occur := by
  have hbody : r.body = .marker tag := by
    unfold Record.tag? at hr
    split at hr
    · next t hbody => rw [hbody, Option.some.inj hr]
    · contradiction
  have hreached : s.handOff r = s.markerReached := by simp only [State.handOff, hbody]
  rw [hreached, State.markerReached_of_cons hout]
  constructor
  · rw [State.report_pair, ← State.addResult_results]
    rfl
  · exact State.report_cause_same _ _

theorem State.handOff_of_data {r : Record} (hr : r.tag? = none) : s.handOff r = { s with host := (s.handOff r).host } := by
  unfold State.handOff
  split
  · next tag hbody => simp [Record.tag?, hbody] at hr
  · split
    · rw [State.releaseHold_eq]
    · rfl

/-- R147: what a removal does to the marker lists and to the MARKER_DONE cause. -/
theorem removeHead_markers {n : Nat} (hlaw : MarkerLaw s) :
    let reached := (s.journal.records.take n).filterMap Record.tag?
    (removeHead n s).pair = { s.pair with outstanding := (s.journal.records.drop n).filterMap Record.tag?,
                                          results := newestEight (s.pair.results ++ reachedResults reached) } ∧
    (removeHead n s).cause .markerDone = reached.foldl (fun c _ => c.occur) (s.cause .markerDone) := by
  induction n generalizing s with
  | zero =>
    obtain ⟨htags, -, hresults, -⟩ := hlaw
    refine ⟨?_, rfl⟩
    rw [List.take_zero, List.filterMap_nil, reachedResults, List.map_nil, List.append_nil, newestEight_of_short hresults, List.drop_zero,
      ← htags]
    rfl
  | succ n ih =>
    cases hrecords : s.journal.records with
    | nil =>
      obtain ⟨htags, -, hresults, -⟩ := hlaw
      rw [hrecords] at htags
      refine ⟨?_, by rw [removeHead_nil hrecords]; rfl⟩
      rw [removeHead_nil hrecords, List.take_nil, List.drop_nil, List.filterMap_nil, reachedResults, List.map_nil, List.append_nil,
        newestEight_of_short hresults, ← List.filterMap_nil (f := Record.tag?), ← htags]
    | cons r rest =>
      have hleft : (State.handOff r { s with journal := { s.journal with records := rest } }).journal.records = rest := by
        rw [State.handOff_frame]
      obtain ⟨hpair, hcause⟩ := ih (hlaw.handOff_head hrecords)
      rw [removeHead_cons hrecords, hpair, hcause, hleft, List.take_succ_cons, List.drop_succ_cons]
      obtain ⟨htags, -, -, -⟩ := hlaw
      rw [hrecords] at htags
      cases hr : r.tag? with
      | none =>
        rw [List.filterMap_cons_none hr, State.handOff_of_data hr]
        exact ⟨rfl, rfl⟩
      | some tag =>
        rw [List.filterMap_cons_some hr] at htags ⊢
        obtain ⟨hmarked, hdone⟩ := State.handOff_of_marker (s := { s with journal := { s.journal with records := rest } }) hr htags
        rw [hmarked, hdone]
        refine ⟨?_, rfl⟩
        dsimp only
        rw [newestEight_newestEight_append, List.append_assoc]
        rfl

/-! ## ACK (R104) -/

theorem State.progress_sender : s.progress.sender =
    { next := s.sender.next, retries := 0, timer := if s.journal.outstanding = 0 then none else some s.params.retxInterval } := by
  unfold State.progress
  dsimp only
  split
  · rfl
  · rfl

theorem exec_receiveAck {bytes : List Byte} {a : SeqNo} (hs : s.Runs) (hrole : s.role = .primary) (hup : s.link.state = .up)
    (hf : checkFrame bytes = some (.ack a)) :
    exec (.receiveAck bytes) s = .next
      (if s.distance a < s.journal.outstanding then (s.restartSilence.remove (s.distance a + 1)).progress.kick else s.restartSilence) := by
  refine (exec_of_valid hs (by simp [hup]) State.takeAck hf).trans ?_
  have hactive : s.restartSilence.senderActive = true := (State.senderActive_iff _).mpr ⟨hrole, hup⟩
  rw [State.heard_of_up hup]
  simp only [State.takeAck, hactive, true_and]
  rfl

theorem State.remove_progress_frame (n : Nat) :
    (s.remove n).progress = { s with journal := (s.remove n).journal, sender := (s.remove n).progress.sender, pair := (s.remove n).pair,
                                     host := (s.remove n).host, sweep := (s.remove n).sweep,
                                     mem := { s.mem with sweepWait := (s.remove n).mem.sweepWait }, alert := (s.remove n).alert } := by
  have hframe := s.remove_frame n
  have hmem := s.remove_mem n
  rw [State.progress_frame]
  generalize s.remove n = t at hframe hmem ⊢
  generalize t.progress.sender = v
  rw [← hmem]
  conv => lhs; rw [hframe]

end

/-- Settles O45: the removal through the number acknowledged, the progress after it, and the ACK that acknowledges nothing. -/
theorem ackRemovesThroughItsNumber : Obligations.AckRemovesThroughItsNumber := by
  intro s bytes a hs hrole hup hf
  have hexec := exec_receiveAck hs hrole hup hf
  intro d heard
  change exec _ s = .next (if d < s.journal.outstanding then (heard.remove (d + 1)).progress.kick else heard) at hexec
  refine ⟨fun hd hjournal hmarkers => ?_, fun hd => ?_⟩
  case refine_2 =>
    rw [hexec, if_neg (Nat.not_lt.mpr hd)]
  case refine_1 =>
    rw [if_pos hd] at hexec
    have hframe := heard.remove_progress_frame (d + 1)
    have hrecords : (heard.remove (d + 1)).journal.records = s.journal.records.drop (d + 1) := heard.remove_records _
    have hrest : (heard.remove (d + 1)).journal.outstanding = s.journal.outstanding - (d + 1) := hjournal.outstanding_drop hd hrecords
    have hhost : (heard.remove (d + 1)).progress.host = (heard.remove (d + 1)).host := by rw [hframe]
    have hpair : (heard.remove (d + 1)).progress.pair = (heard.remove (d + 1)).pair := by rw [hframe]
    obtain ⟨hmarks, hdone⟩ := removeHead_markers (s := heard) (n := d + 1) hmarkers
    have hcarrier : (∃ r ∈ s.journal.records.take (d + 1), r.waiter = true ∧ r.tag? = none) →
        (heard.journal.records.take (d + 1)).any Record.releases = true := by
      rintro ⟨r, hr, hwaiter, htag⟩
      exact List.any_eq_true.mpr ⟨r, hr, Record.releases_iff.mpr ⟨hwaiter, htag⟩⟩
    refine ⟨(heard.remove (d + 1)).progress, hexec, ?_, ?_, ?_, ?_, fun hstate hcarry => ?_, fun hstate hcarry => ?_,
      fun hstate hnone => ?_, ⟨?_, ?_⟩, fun n t hstate hnoted htxn => ?_⟩
    · rw [hframe]
      exact hrecords
    · have hnone : (heard.remove (d + 1)).journal.outstanding = 0 ↔ d + 1 = s.journal.outstanding := by omega
      rw [State.progress_sender, State.remove_sender, State.remove_params]
      simp only [hnone]
      rfl
    · rw [hpair, State.remove_pair (by omega), hmarks]
    · generalize (heard.remove (d + 1)).progress = u at hframe ⊢
      rw [hframe]
    · have hwait : s.host.state ≠ .spaceWait := by simp [hstate]
      rw [hhost, State.remove_host_of_not_waiting (s := heard) (Nat.succ_pos d) hwait, if_pos (hcarrier hcarry)]
      exact HostPort.released_of_hold hstate
    · have hwait : s.host.state ≠ .spaceWait := by simp [hstate]
      rw [hhost, State.remove_host_of_not_waiting (s := heard) (Nat.succ_pos d) hwait, if_pos (hcarrier hcarry)]
      exact HostPort.released_of_memory hstate
    · have hfree : ¬(heard.journal.records.take (d + 1)).any Record.releases = true := by
        rw [List.any_eq_true]
        rintro ⟨r, hr, hreleases⟩
        exact Bool.false_ne_true ((hnone r hr).symm.trans (Record.releases_iff.mp hreleases).1)
      rw [hhost, State.remove_host_of_not_waiting (s := heard) (Nat.succ_pos d) hstate, if_neg hfree]
    · rw [hpair, State.remove_pair (by omega), hmarks]
      rfl
    · have hcause : (heard.remove (d + 1)).progress.cause .markerDone = (heard.remove (d + 1)).cause .markerDone := by
        rw [State.progress_frame]
        rfl
      rw [hcause, State.remove_cause (by omega) (by decide), hdone]
      rfl
    · obtain ⟨hleaves, hclaims⟩ :=
        State.remove_host_of_waiting (s := heard) (n := d + 1) (by omega) hup hstate hnoted htxn
      rw [hhost]
      refine ⟨hleaves, fun hneed hroom => hclaims hneed ?_⟩
      rw [hframe] at hroom
      rw [← hrecords]
      exact hroom

/-! ## NAK (R42, R106) -/

section
variable {s : State}

theorem Record.heldBack_eq (r : Record) : r.heldBack = (r.waiter || r.tag?.isSome) := by
  obtain ⟨body, state, seq, waiter⟩ := r
  cases body with
  | line | image | marker => rfl

/-- A record not held back is handed to nobody. -/
theorem State.handOff_of_free {r : Record} (h : r.heldBack = false) : s.handOff r = s := by
  rw [Record.heldBack_eq, Bool.or_eq_false_iff] at h
  obtain ⟨hwaiter, htag⟩ := h
  unfold State.handOff
  split
  · next tag hbody => simp [Record.tag?, hbody] at htag
  · rw [hwaiter]
    rfl

theorem removeHead_of_free {n : Nat} (h : ∀ r ∈ s.journal.records.take n, r.heldBack = false) :
    removeHead n s = { s with journal := { s.journal with records := s.journal.records.drop n } } := by
  induction n generalizing s with
  | zero => rfl
  | succ n ih =>
    cases hrecords : s.journal.records with
    | nil =>
      rw [removeHead_nil hrecords, List.drop_nil, ← hrecords]
    | cons r rest =>
      rw [hrecords, List.take_succ_cons] at h
      rw [removeHead_cons hrecords, State.handOff_of_free (h r (by simp)), ih fun x hx => h x (List.mem_cons_of_mem _ hx)]
      rfl

theorem Journal.nakRemoves_free {j : Journal} {d : Nat} : ∀ r ∈ j.records.take (j.nakRemoves d), r.heldBack = false := by
  intro r hr
  have hprefix : (j.records.take d).takeWhile (fun r => !r.heldBack) <+: j.records :=
    (List.takeWhile_prefix _).trans (List.take_prefix _ _)
  have htake : j.records.take (j.nakRemoves d) = (j.records.take d).takeWhile fun r => !r.heldBack :=
    (List.prefix_iff_eq_take.mp hprefix).symm
  rw [htake] at hr
  simpa using holds_of_mem_takeWhile hr

/-- R42: a rewind leaves what is outstanding. -/
theorem Record.rewind_outstanding (r : Record) : r.rewind.isOutstanding = r.isOutstanding := congrArg Prod.fst r.rewind_delivery

theorem State.rewind_outstanding : s.rewind.journal.outstanding = s.journal.outstanding := by
  simp only [State.rewind, Journal.outstanding, List.countP_map]
  exact List.countP_congr fun r _ => by simp [Record.rewind_outstanding]

/-- R106: the timer and the retry count by what was removed and what remains. -/
theorem State.acceptNak_eq (d : Nat) : s.acceptNak d =
    let n := s.journal.nakRemoves d
    { (s.remove n).rewind with sender :=
      { next := s.sender.next, retries := if n = 0 then s.sender.retries else 0,
        timer := if (s.remove n).journal.outstanding = 0 then none
                 else if n = 0 then s.sender.timer else some s.params.retxInterval } } := by
  have hout : (s.remove (s.journal.nakRemoves d)).rewind.journal.outstanding =
      (s.remove (s.journal.nakRemoves d)).journal.outstanding := State.rewind_outstanding
  have hsender : (s.remove (s.journal.nakRemoves d)).rewind.sender = s.sender := State.remove_sender _ _
  have hparams : (s.remove (s.journal.nakRemoves d)).rewind.params = s.params := State.remove_params _ _
  unfold State.acceptNak
  dsimp only
  generalize (s.remove (s.journal.nakRemoves d)).rewind = t at hout hsender hparams ⊢
  rw [hout]
  split
  · split
    · rw [State.stopRetx, hsender]
    · rw [← hsender]
  · rw [State.progress_frame, State.progress_sender, hout, hsender, hparams]

theorem exec_receiveNak {bytes : List Byte} {e : SeqNo} (hs : s.Runs) (hrole : s.role = .primary) (hup : s.link.state = .up)
    (hf : checkFrame bytes = some (.nak e)) :
    exec (.receiveNak bytes) s = .next
      (if s.distance e ≤ s.journal.outstanding then ((s.restartSilence.bump .naksReceived).acceptNak (s.distance e)).kick
       else s.restartSilence.bump .naksReceived) := by
  refine (exec_of_valid hs (by simp [hup]) State.takeNak hf).trans ?_
  have hactive : s.restartSilence.senderActive = true := (State.senderActive_iff _).mpr ⟨hrole, hup⟩
  rw [State.heard_of_up hup]
  simp only [State.takeNak, hactive, if_true]
  rfl

/-- A NAK removes no MARKER record, so the marker lists stand; nor a carrying one, so the host port is not released. -/
theorem State.remove_nak_pair (d : Nat) : (s.remove (s.journal.nakRemoves d)).pair = s.pair := by
  cases hn : s.journal.nakRemoves d with
  | zero => rfl
  | succ n =>
    rw [State.remove_pair (by omega), ← hn, removeHead_of_free Journal.nakRemoves_free]

theorem State.remove_nak_host (d : Nat) (h : s.host.state ≠ .spaceWait ∨ s.journal.nakRemoves d = 0) :
    (s.remove (s.journal.nakRemoves d)).host = s.host := by
  cases hn : s.journal.nakRemoves d with
  | zero => rfl
  | succ n =>
    have hwait : s.host.state ≠ .spaceWait := h.resolve_right (by omega)
    have hfree := removeHead_of_free (s := s) (Journal.nakRemoves_free (d := d))
    rw [hn] at hfree
    rw [State.remove_host (by omega), State.retestHost_of_not_waiting _ (by rw [hfree]; exact hwait), hfree]

theorem State.acceptNak_keeps (d : Nat) :
    s.acceptNak d =
      { s with journal := (s.acceptNak d).journal, sender := (s.acceptNak d).sender, host := (s.remove (s.journal.nakRemoves d)).host,
               sweep := (s.acceptNak d).sweep, mem := { s.mem with sweepWait := (s.acceptNak d).mem.sweepWait },
               alert := (s.acceptNak d).alert } := by
  have hframe := s.remove_frame (s.journal.nakRemoves d)
  have hmem := s.remove_mem (s.journal.nakRemoves d)
  have hpair := s.remove_nak_pair d
  rw [State.acceptNak_eq]
  dsimp only [State.rewind]
  generalize s.remove (s.journal.nakRemoves d) = t at hframe hmem hpair ⊢
  rw [← hmem]
  conv => lhs; rw [hframe]
  rw [hpair]

end

/-- Settles O46: the removal, the rewind and the sender's part of them, and the NAK that is only counted. -/
theorem nakRemovesAndRewinds : Obligations.NakRemovesAndRewinds := by
  intro s bytes e hs hrole hup hf
  have hexec := exec_receiveNak hs hrole hup hf
  intro d heard kept n
  change exec _ s = .next (if d ≤ s.journal.outstanding then (heard.acceptNak d).kick else heard) at hexec
  have hn : heard.journal.nakRemoves d = n := by
    have hkept : (fun r : Record => !r.heldBack) = fun r => !kept r := by
      funext r
      rw [Record.heldBack_eq]
    rw [Journal.nakRemoves, hkept]
  refine ⟨fun hd hjournal => ?_, fun hd => ?_⟩
  case refine_2 => rw [hexec, if_neg (Nat.not_le.mpr hd)]
  case refine_1 =>
    rw [if_pos hd] at hexec
    have heq := heard.acceptNak_eq d
    have hframe := heard.acceptNak_keeps d
    have hle : n ≤ s.journal.outstanding := hn ▸ Nat.le_trans (heard.journal.nakRemoves_le d) hd
    have hrecords : (heard.remove n).journal.records = s.journal.records.drop n := heard.remove_records _
    have hrest : (heard.remove n).journal.outstanding = s.journal.outstanding - n := hjournal.outstanding_drop hle hrecords
    have hhost : (heard.acceptNak d).host = (heard.remove n).host := by rw [hframe, hn]
    have hjoined : (heard.acceptNak d).journal.records = (s.journal.records.drop n).map Record.rewind := by
      rw [heq, hn]
      exact congrArg (List.map Record.rewind) hrecords
    dsimp only at heq
    rw [hn] at heq
    refine ⟨heard.acceptNak d, hexec, hjoined, ?_, ?_, fun hfree => ?_, fun b t hstate hnoted htxn hone => ?_⟩
    · have hnone : (heard.remove n).journal.outstanding = 0 ↔ n = s.journal.outstanding := by omega
      rw [heq]
      simp only [hnone]
      rfl
    · generalize heard.acceptNak d = u at hframe hhost ⊢
      rw [hn, ← hhost] at hframe
      exact hframe
    · rw [hhost, ← hn]
      exact heard.remove_nak_host d (hfree.imp_right fun h => hn.trans h)
    · obtain ⟨hleaves, hclaims⟩ := State.remove_host_of_waiting (s := heard) (n := n) hone hup hstate hnoted htxn
      rw [hhost, hjoined, List.length_map]
      exact ⟨hleaves, hclaims⟩

end Sys2Proof.Machine

/-! PROOF. A management frame on the lines, bit by bit and byte by byte (R152 to R156). -/

namespace Sys2Proof.Machine

open Sys2Proof

set_option Elab.async false

/-! ## The commands that bytes spell (R153, R179, Table 10.1) -/

theorem bytes32_join (w : BitVec 32) :
    w.extractLsb' 24 8 ++ w.extractLsb' 16 8 ++ w.extractLsb' 8 8 ++ w.extractLsb' 0 8 = w := by
  rw [BitVec.extractLsb'_append_extractLsb'_eq_extractLsb' (by rfl), BitVec.extractLsb'_append_extractLsb'_eq_extractLsb' (by rfl)]
  exact append_extract (m := 24) (n := 8) w

theorem managementCommand_writeRegion (i v m p : Byte) (pattern care : BitVec 16) :
    managementCommand 0x11 ([i, v, m, p] ++ bytes16 pattern ++ bytes16 care) = some (.writeRegion i v m p pattern care) := by
  have hspelt : managementCommand 0x11 ([i, v, m, p] ++ bytes16 pattern ++ bytes16 care) =
      some (.writeRegion i v m p (pattern.extractLsb' 8 8 ++ pattern.extractLsb' 0 8) (care.extractLsb' 8 8 ++ care.extractLsb' 0 8)) := rfl
  rw [hspelt, bytes16_join, bytes16_join]

theorem managementCommand_writeParam (i : Byte) (v : BitVec 32) :
    managementCommand 0x19 (i :: bytes32 v) = some (.writeParam i v) := by
  have hspelt : managementCommand 0x19 (i :: bytes32 v) =
      some (.writeParam i (v.extractLsb' 24 8 ++ v.extractLsb' 16 8 ++ v.extractLsb' 8 8 ++ v.extractLsb' 0 8)) := rfl
  rw [hspelt, bytes32_join]

theorem managementCommand_placeMarker (tag : Tag) : managementCommand 0x23 (bytes16 tag) = some (.placeMarker tag) := by
  have hspelt : managementCommand 0x23 (bytes16 tag) = some (.placeMarker (tag.extractLsb' 8 8 ++ tag.extractLsb' 0 8)) := rfl
  rw [hspelt, bytes16_join]

theorem managementCommand_ackAlerts (mask : BitVec 16) : managementCommand 0x31 (bytes16 mask) = some (.ackAlerts mask) := by
  have hspelt : managementCommand 0x31 (bytes16 mask) = some (.ackAlerts (mask.extractLsb' 8 8 ++ mask.extractLsb' 0 8)) := rfl
  rw [hspelt, bytes16_join]

theorem managementCommand_setAlertEnables (mask : BitVec 16) :
    managementCommand 0x32 (bytes16 mask) = some (.setAlertEnables mask) := by
  have hspelt : managementCommand 0x32 (bytes16 mask) = some (.setAlertEnables (mask.extractLsb' 8 8 ++ mask.extractLsb' 0 8)) := rfl
  rw [hspelt, bytes16_join]

theorem managementCommand_of_unknown {code : Byte} (h : commandArgs code = none) :
    managementCommand code [] = some (.unknownCommand code) := by
  unfold managementCommand
  rw [h]
  rfl

/-- The command bytes of Table 10.1, each with its number of argument bytes. -/
def commandTable : List (Nat × Nat) :=
  [(0x01, 0), (0x10, 1), (0x11, 8), (0x18, 1), (0x19, 5), (0x20, 1), (0x21, 0), (0x22, 0), (0x23, 2), (0x24, 0), (0x28, 0), (0x29, 0),
    (0x2A, 0), (0x30, 0), (0x31, 2), (0x32, 2), (0x38, 3), (0x3F, 0)]

theorem mem_commandTable {code : Byte} {n : Nat} (h : commandArgs code = some n) : (code.toNat, n) ∈ commandTable := by
  unfold commandArgs at h
  generalize code.toNat = x at h ⊢
  split at h
  all_goals
    cases h <;> decide

/-- No command byte of the table spells a command with another number of argument bytes. -/
theorem managementCommand_of_wrong_length :
    ∀ entry ∈ commandTable, ∀ args : List Byte, args.length ≠ entry.2 → managementCommand (BitVec.ofNat 8 entry.1) args = none := by
  simp only [commandTable, List.forall_mem_cons]
  refine ⟨?_, ?_, ?_, ?_, ?_, ?_, ?_, ?_, ?_, ?_, ?_, ?_, ?_, ?_, ?_, ?_, ?_, ?_, by simp⟩
  all_goals
    rintro (_ | ⟨_, _ | ⟨_, _ | ⟨_, _ | ⟨_, _ | ⟨_, _ | ⟨_, _ | ⟨_, _ | ⟨_, _ | ⟨_, _⟩⟩⟩⟩⟩⟩⟩⟩⟩) hne <;>
      first | rfl | exact absurd rfl hne

/-- The bytes that spell a command are as many as its table entry says. -/
theorem length_of_managementCommand {code : Byte} {args : List Byte} {c : Instr} (h : managementCommand code args = some c) :
    args.length = (commandArgs code).getD 0 := by
  cases hargs : commandArgs code with
  | none =>
    unfold managementCommand at h
    rw [hargs] at h
    refine Classical.byContradiction fun hne => ?_
    have hnone : args ≠ [] := fun hnil => hne (by rw [hnil]; rfl)
    simp [hnone] at h
  | some n =>
    refine Classical.byContradiction fun hne => ?_
    have hwrong := managementCommand_of_wrong_length _ (mem_commandTable hargs) args hne
    rw [BitVec.ofNat_toNat, BitVec.setWidth_eq, h] at hwrong
    contradiction

/-! ## The bytes that go out after the taking (R153, R155, Table 8.1) -/

/-- The port k bytes after the taking of a command. -/
def Mgmt.after (m : Mgmt) (k : Nat) : Mgmt :=
  if k < 2 then { m with passed := k }
  else if k = 2 then { m with phase := .result, passed := 0 }
  else if k - 3 < m.response.length then { m with phase := .response, passed := k - 3 }
  else { m with phase := .fill, passed := 0 }

theorem Mgmt.after_succ {m : Mgmt} (hphase : m.phase = .turnaround) (hbits : m.bits = []) (k : Nat) :
    (m.after k).bytePassed = m.after (k + 1) := by
  obtain hk | hk | hk | hk : k = 0 ∨ k = 1 ∨ k = 2 ∨ 3 ≤ k := by omega
  · subst hk
    simp [Mgmt.after, Mgmt.bytePassed, hphase, hbits]
  · subst hk
    simp [Mgmt.after, Mgmt.bytePassed, hphase, hbits]
  · subst hk
    by_cases hresponse : m.response = []
    · simp [Mgmt.after, Mgmt.bytePassed, hbits, hresponse]
    · simp [Mgmt.after, Mgmt.bytePassed, hbits, hresponse, List.length_pos_iff.mpr hresponse]
  · obtain ⟨j, rfl⟩ := Nat.exists_eq_add_of_le' hk
    have hlow : ¬j + 3 < 2 := by omega
    have hnext : ¬j + 3 + 1 < 2 := by omega
    have hsub : j + 3 + 1 - 3 = j + 1 := by omega
    by_cases hmore : j < m.response.length
    · by_cases hlast : j + 1 < m.response.length
      · simp [Mgmt.after, Mgmt.bytePassed, hbits, hlow, hnext, hsub, hmore, hlast]
      · simp [Mgmt.after, Mgmt.bytePassed, hbits, hlow, hnext, hsub, hmore, hlast]
    · have hlast : ¬j + 1 < m.response.length := by omega
      simp [Mgmt.after, Mgmt.bytePassed, hbits, hlow, hnext, hsub, hmore, hlast]

theorem Mgmt.repeat_bytePassed {m : Mgmt} (hphase : m.phase = .turnaround) (hbits : m.bits = []) (hpassed : m.passed = 0) (k : Nat) :
    Nat.repeat Mgmt.bytePassed k m = m.after k := by
  induction k with
  | zero =>
    rw [Nat.repeat, Mgmt.after, if_pos (by omega), ← hpassed]
  | succ k ih => rw [Nat.repeat, ih, Mgmt.after_succ hphase hbits]

theorem Mgmt.after_byteOut {m : Mgmt} {r : ResultCode} (hphase : m.phase = .turnaround) (hresult : m.result = some r) (k : Nat) :
    (m.after k).byteOut = some (([0xFF, 0xFF, r.code] ++ m.response).getD k 0xFF) := by
  obtain hk | hk | hk | hk : k = 0 ∨ k = 1 ∨ k = 2 ∨ 3 ≤ k := by omega
  · subst hk
    simp [Mgmt.after, Mgmt.byteOut, hphase]
  · subst hk
    simp [Mgmt.after, Mgmt.byteOut, hphase]
  · subst hk
    simp [Mgmt.after, Mgmt.byteOut, hresult]
  · obtain ⟨j, rfl⟩ := Nat.exists_eq_add_of_le' hk
    have hlow : ¬j + 3 < 2 := by omega
    by_cases hmore : j < m.response.length
    · simp [Mgmt.after, Mgmt.byteOut, hlow, hmore]
    · simp [Mgmt.after, Mgmt.byteOut, hlow, hmore]

/-! ## Bits and bytes (R152) -/

/-- A bit as a byte. -/
theorem bitByte_getElem_zero (v : Bool) : (if v = true then 1#8 else 0#8)[0] = v := by cases v <;> rfl

theorem bitByte_getElem_high (v : Bool) {i : Nat} (hi : i < 8) (hpos : i ≠ 0) : (if v = true then 1#8 else 0#8)[i] = false := by
  cases v
  · simp
  · simp [hpos]

theorem byteOfBits_bits (b : Byte) : byteOfBits ((List.range 8).map b.getMsbD) = b := by
  refine BitVec.eq_of_getLsbD_eq fun i hi => ?_
  simp only [byteOfBits, List.range, List.range.loop, List.map_cons, List.map_nil, List.foldl_cons, List.foldl_nil]
  obtain rfl | rfl | rfl | rfl | rfl | rfl | rfl | rfl :
      i = 0 ∨ i = 1 ∨ i = 2 ∨ i = 3 ∨ i = 4 ∨ i = 5 ∨ i = 6 ∨ i = 7 := by omega
  all_goals simp [BitVec.getMsbD, bitByte_getElem_zero, bitByte_getElem_high]

/-! ## The lines by the frame's phase (R152 to R154) -/

section
variable {s : State}

theorem exec_unknownCommand {code : Byte} (hs : s.Runs) (hcode : commandArgs code = none) (hawaits : s.mgmt.awaits code [] = true) :
    exec (.unknownCommand code) s = .next (s.replied code [] .unknown []) := by
  change execUnknownCommand code s = _
  unfold execUnknownCommand
  rw [hcode]
  exact State.takeCommand_of_takes ⟨hs, hawaits⟩ (refuse .unknown)

theorem exec_unknownCommand_of_busy {code : Byte} (hs : s.Runs) (hcode : commandArgs code = none)
    (hawaits : s.mgmt.awaits code [] = false) : exec (.unknownCommand code) s = .next s := by
  change execUnknownCommand code s = _
  unfold execUnknownCommand
  rw [hcode]
  simp only [State.takeCommand, State.awake_of_runs hs, hawaits]
  rfl

theorem execShortFrame_of_idle (hs : s.Runs) (hphase : s.mgmt.phase = .deselected) (bytes : List Byte) : execShortFrame bytes s = .next s := by
  rw [execShortFrame, State.awake_of_runs hs]
  simp only [hphase]

theorem execShortFrame_of_short (hs : s.Runs)
    (hphase : s.mgmt.phase = .waitingForRise ∨ s.mgmt.phase = .command ∨ s.mgmt.phase = .arguments) (bytes : List Byte) :
    execShortFrame bytes s = .next { s with mgmt := Mgmt.deselected } := by
  rw [execShortFrame, State.awake_of_runs hs]
  rcases hphase with h | h | h
  all_goals simp only [h]

theorem execFrameEnd_of_taken (hs : s.Runs)
    (hphase : s.mgmt.phase = .waitingForRise ∨ s.mgmt.phase = .turnaround ∨ s.mgmt.phase = .result ∨ s.mgmt.phase = .response ∨
      s.mgmt.phase = .fill) : execFrameEnd s = .next { s with mgmt := Mgmt.deselected } := by
  rw [execFrameEnd, State.awake_of_runs hs]
  rcases hphase with h | h | h | h | h
  all_goals simp only [h]

theorem mselRise_of_short (hs : s.Runs)
    (hphase : s.mgmt.phase = .waitingForRise ∨ s.mgmt.phase = .command ∨ s.mgmt.phase = .arguments) :
    s.lineEvent .mselRise = .next { s with mgmt := Mgmt.deselected } := by
  have hshort := execShortFrame_of_short hs hphase
  change s.mselRise = _
  unfold State.mselRise
  rcases hphase with h | h | h
  all_goals
    rw [h]
    exact hshort _

theorem mselRise_of_taken (hs : s.Runs)
    (hphase : s.mgmt.phase = .turnaround ∨ s.mgmt.phase = .result ∨ s.mgmt.phase = .response ∨ s.mgmt.phase = .fill) :
    s.lineEvent .mselRise = .next { s with mgmt := Mgmt.deselected } := by
  have hend := execFrameEnd_of_taken hs (.inr hphase)
  change s.mselRise = _
  unfold State.mselRise
  rcases hphase with h | h | h | h
  all_goals
    rw [h]
    exact hend

theorem mselFall_of_idle (hs : s.Runs) (hphase : s.mgmt.phase = .deselected) :
    s.lineEvent .mselFall = .next { s with mgmt := Mgmt.selected } := by
  change s.mselFall = _
  rw [State.mselFall, State.awake_of_runs hs, if_pos hphase]

theorem Mgmt.inFrame_of_out (h : s.mgmt.phase = .deselected ∨ s.mgmt.phase = .waitingForRise) : s.mgmt.inFrame = false := by
  rcases h with h | h
  · simp [Mgmt.inFrame, h]
  · simp [Mgmt.inFrame, h]

theorem Mgmt.byteOut_of_out (h : s.mgmt.phase = .deselected ∨ s.mgmt.phase = .waitingForRise) : s.mgmt.byteOut = none := by
  rcases h with h | h
  · simp [Mgmt.byteOut, h]
  · simp [Mgmt.byteOut, h]

theorem Mgmt.inFrame_of_byteOut {shown : Byte} (h : s.mgmt.byteOut = some shown) : s.mgmt.inFrame = true := by
  refine Classical.byContradiction fun hout => ?_
  have hphase : s.mgmt.phase = .deselected ∨ s.mgmt.phase = .waitingForRise := by
    simpa [Mgmt.inFrame, ← Classical.or_iff_not_imp_left] using hout
  rw [Mgmt.byteOut_of_out hphase] at h
  contradiction

theorem mclkFall_of_out (hs : s.Runs) (hout : s.mgmt.inFrame = false) : s.lineEvent .mclkFall = .next s := by
  change s.mclkFall = _
  rw [State.mclkFall, State.awake_of_runs hs, hout]
  rfl

theorem mclkRise_of_out (hs : s.Runs) (hout : s.mgmt.inFrame = false) (mdi : Bool) : s.lineEvent (.mclkRise mdi) = .next s := by
  change s.mclkRise mdi = _
  rw [State.mclkRise, State.awake_of_runs hs, hout]
  rfl

section
variable {shown : Byte} (hs : s.Runs) (hshown : s.mgmt.byteOut = some shown)
include hs hshown

theorem mclkFall_of_byteOut :
    s.lineEvent .mclkFall = .next
      { s with mgmt := { s.mgmt with mdo := (if shown.getMsbD s.mgmt.bits.length then .high else .low) } } := by
  change s.mclkFall = _
  rw [State.mclkFall, State.awake_of_runs hs, if_pos (Mgmt.inFrame_of_byteOut hshown), Mgmt.level, hshown]

theorem mclkRise_of_bit (mdi : Bool) (hbits : s.mgmt.bits.length < 7) :
    s.lineEvent (.mclkRise mdi) = .next { s with mgmt := { s.mgmt with bits := s.mgmt.bits ++ [mdi] } } := by
  change s.mclkRise mdi = _
  rw [State.mclkRise, State.awake_of_runs hs, if_pos (Mgmt.inFrame_of_byteOut hshown), if_pos hbits]

theorem mclkRise_of_byte {mdi : Bool} {b : Byte} (hbits : s.mgmt.bits.length = 7) (hb : byteOfBits (s.mgmt.bits ++ [mdi]) = b) :
    s.lineEvent (.mclkRise mdi) = s.byteArrives b := by
  change s.mclkRise mdi = _
  rw [State.mclkRise, State.awake_of_runs hs, if_pos (Mgmt.inFrame_of_byteOut hshown), if_neg (by omega), hb]

end

/-! ## A byte that arrives (R153) -/

/-- The frame with its command byte and the argument bytes so far, between two bytes. -/
def State.kept (s : State) (args : List Byte) (command : Byte) (phase : MgmtPhase) : State :=
  { s with mgmt := { s.mgmt with phase := phase, command := some command, args := args, bits := [] } }

theorem State.kept_takes {args : List Byte} {command : Byte} {phase : MgmtPhase} (hs : s.Runs)
    (hphase : phase = .command ∨ phase = .arguments) : (s.kept args command phase).Takes command args := by
  refine ⟨hs, ?_⟩
  rcases hphase with rfl | rfl
  · simp [Mgmt.awaits, State.kept]
  · simp [Mgmt.awaits, State.kept]

theorem State.takeKept_of_spelt {args : List Byte} {command : Byte} {phase : MgmtPhase} {c : Instr}
    (hc : managementCommand command args = some c) : (s.kept args command phase).takeKept = exec c (s.kept args command phase) := by
  unfold State.takeKept
  simp only [State.kept, hc]

theorem State.byteArrives_of_arguments {b : Byte} {n : Nat} (hphase : s.mgmt.phase = .command) (hargs : commandArgs b = some (n + 1)) :
    s.byteArrives b = .next (s.kept [] b .arguments) := by
  unfold State.byteArrives
  simp only [hphase, hargs]
  rfl

theorem State.byteArrives_of_command {b : Byte} {c : Instr} (hphase : s.mgmt.phase = .command) (hc : managementCommand b [] = some c) :
    s.byteArrives b = exec c (s.kept [] b .command) := by
  have hlength := length_of_managementCommand hc
  have hkept : ({ s with mgmt := { s.mgmt with command := some b, args := [], bits := [] } } : State) = s.kept [] b .command := by
    rw [State.kept, ← hphase]
  rw [← State.takeKept_of_spelt hc, ← hkept]
  unfold State.byteArrives
  simp only [hphase]
  split
  · next n hargs => simp [hargs] at hlength
  · rfl

/-- An argument byte joins the ones kept, and the last one spells the command. -/
theorem State.byteArrives_argument {b code : Byte} (hphase : s.mgmt.phase = .arguments) (hcommand : s.mgmt.command = some code) :
    s.byteArrives b =
      if s.mgmt.args.length + 1 < (commandArgs code).getD 0 then .next (s.kept (s.mgmt.args ++ [b]) code .arguments)
      else (s.kept (s.mgmt.args ++ [b]) code .arguments).takeKept := by
  unfold State.byteArrives
  simp only [hphase]
  rw [hcommand, State.kept, List.length_append]
  rfl

theorem State.byteArrives_of_more {b code : Byte} {n : Nat} (hphase : s.mgmt.phase = .arguments) (hcommand : s.mgmt.command = some code)
    (hargs : commandArgs code = some n) (hmore : s.mgmt.args.length + 1 < n) :
    s.byteArrives b = .next (s.kept (s.mgmt.args ++ [b]) code .arguments) := by
  rw [State.byteArrives_argument hphase hcommand, hargs]
  exact if_pos hmore

theorem State.byteArrives_of_last {b code : Byte} {c : Instr} (hphase : s.mgmt.phase = .arguments) (hcommand : s.mgmt.command = some code)
    (hc : managementCommand code (s.mgmt.args ++ [b]) = some c) :
    s.byteArrives b = exec c (s.kept (s.mgmt.args ++ [b]) code .arguments) := by
  have hlength := length_of_managementCommand hc
  rw [List.length_append, List.length_singleton] at hlength
  rw [State.byteArrives_argument hphase hcommand, if_neg (by omega), State.takeKept_of_spelt hc]

theorem State.byteArrives_of_taken {b : Byte}
    (hphase : s.mgmt.phase = .turnaround ∨ s.mgmt.phase = .result ∨ s.mgmt.phase = .response ∨ s.mgmt.phase = .fill) :
    s.byteArrives b = .next { s with mgmt := s.mgmt.bytePassed } := by
  unfold State.byteArrives
  rcases hphase with h | h | h | h
  all_goals simp only [h]

end

/-- Settles O59: the table of the commands, the bytes that go out, and the lines by the frame's phase. -/
theorem managementFramesBeginAndEnd : Obligations.ManagementFramesBeginAndEnd := by
  refine ⟨?table, fun s code args r response k => ?bytes, byteOfBits_bits, fun s hs => ?lines⟩
  case table =>
    exact ⟨fun _ h => managementCommand_of_unknown h, rfl, fun _ => rfl, managementCommand_writeRegion, fun _ => rfl,
      managementCommand_writeParam, fun _ => rfl, rfl, rfl, managementCommand_placeMarker, rfl, rfl, rfl, rfl, rfl,
      managementCommand_ackAlerts, managementCommand_setAlertEnables, fun _ _ _ => rfl, rfl,
      fun _ _ _ h => length_of_managementCommand h⟩
  case bytes =>
    rw [Mgmt.repeat_bytePassed rfl rfl rfl, Mgmt.after_byteOut (r := r) rfl rfl]
    rfl
  case lines =>
    refine ⟨fun code hcode => ⟨exec_unknownCommand hs hcode, exec_unknownCommand_of_busy hs hcode⟩,
      fun bytes hphase => execShortFrame_of_idle hs hphase bytes,
      fun bytes hphase => ⟨execShortFrame_of_short hs hphase bytes, mselRise_of_short hs hphase⟩,
      fun hphase => ⟨execFrameEnd_of_taken hs (.inr hphase), mselRise_of_taken hs hphase⟩,
      fun hphase => execFrameEnd_of_taken hs (.inl hphase), mselFall_of_idle hs,
      fun hphase => ⟨Mgmt.byteOut_of_out hphase, mclkFall_of_out hs (Mgmt.inFrame_of_out hphase),
        mclkRise_of_out hs (Mgmt.inFrame_of_out hphase)⟩,
      fun shown hshown => ⟨mclkFall_of_byteOut hs hshown, mclkRise_of_bit hs hshown, fun mdi b hbits hb => ?_⟩⟩
    rw [mclkRise_of_byte hs hshown hbits hb]
    exact ⟨fun n hphase hargs => State.byteArrives_of_arguments hphase hargs,
      fun c hphase hc => ⟨State.byteArrives_of_command hphase hc, State.kept_takes hs (.inl rfl)⟩,
      fun code n hphase hcommand hargs => ⟨State.byteArrives_of_more hphase hcommand hargs,
        fun c hc => ⟨State.byteArrives_of_last hphase hcommand hc, State.kept_takes hs (.inr rfl)⟩⟩,
      State.byteArrives_of_taken⟩

end Sys2Proof.Machine
